-- ==== Sys2Proof/Word.lean ====
section
/-! DEFINITION. The word types of the block (00_scope.md R7, 30_encoding.md R75, R80). -/

namespace Sys2Proof

/-- A channel value, the brightness, a framebuffer byte: unsigned, 0 to 255 (R7). -/
abbrev Byte := BitVec 8

/-- One host command word CW[95:0] (R75). -/
abbrev CommandWord := BitVec 96

/-- The response bus RSP[31:0] (R80). -/
abbrev Response := BitVec 32

end Sys2Proof
end

