-- ==== Sys2Proof/Syntax.lean ====
section
/-! DEFINITION. The instructions: nine host commands (30_encoding.md R77) and sixteen sequencer
phases (R82), one constructor for each row of the opcode table. -/

namespace Sys2Proof

/-- The sixteen values of the `phase` register (10_state.md R26, 30_encoding.md R82). -/
inductive Phase where
  | idle | rowCheck | blank | latchb | packU | packL | data | clkHi
  | clkLo | addr | latHi | latLo | oeOn | dwell | frameEnd | exit
  deriving DecidableEq, Repr, Inhabited

/-- Coordinates and sizes are the mathematical integers that `sext_16` yields (R76). A field that a
command does not use is no operand of it (R78). -/
inductive Instr where
  | setpixel (x y : Int) (r g b : Byte)
  | getpixel (x y : Int)
  | clear (r g b : Byte)
  | fillrect (x y w h : Int) (r g b : Byte)
  | setbright (value : Int)
  | present
  | start
  | stop
  | getstatus
  | idle
  | rowCheck
  | blank
  | latchb
  | packU
  | packL
  | data
  | clkHi
  | clkLo
  | addr
  | latHi
  | latLo
  | oeOn
  | dwell
  | frameEnd
  | exit
  deriving DecidableEq, Repr, Inhabited

end Sys2Proof
end

