-- ==== Sys2Proof/WellFormed.lean ====
section
/-! DEFINITION. Which instructions a command word can carry: a coordinate, a size or a brightness
operand is a signed 16-bit number (30_encoding.md R75, R76). -/

namespace Sys2Proof

/-- `v` is a value of `sext_16` (R76: "integers in -32768 .. 32767"). -/
def fitsSext16 (v : Int) : Bool := decide (-32768 ≤ v) && decide (v ≤ 32767)

/-- The instruction's operands fit the fields of the command word. -/
def Instr.wf (i : Instr) : Bool :=
  match i with
  | .setpixel x y _ _ _ => fitsSext16 x && fitsSext16 y
  | .getpixel x y => fitsSext16 x && fitsSext16 y
  | .clear _ _ _ => true
  | .fillrect x y w h _ _ _ => fitsSext16 x && fitsSext16 y && fitsSext16 w && fitsSext16 h
  | .setbright v => fitsSext16 v
  | .present => true
  | .start => true
  | .stop => true
  | .getstatus => true
  | .idle => true
  | .rowCheck => true
  | .blank => true
  | .latchb => true
  | .packU => true
  | .packL => true
  | .data => true
  | .clkHi => true
  | .clkLo => true
  | .addr => true
  | .latHi => true
  | .latLo => true
  | .oeOn => true
  | .dwell => true
  | .frameEnd => true
  | .exit => true

end Sys2Proof
end

