-- ==== Sys2Proof/Decode.lean ====
section
/-! DEFINITION. Decoding and encoding: the command word (30_encoding.md R75 to R79), the phase code
(R82), the call syntax's pseudo-instructions (R84) and the opcode table's numbering. -/

namespace Sys2Proof

/-- Field `op`, bits 95:88 (R75). -/
def cwOp (cw : CommandWord) : BitVec 8 := cw.extractLsb' 88 8

/-- Field `x`, bits 87:72, read as `sext_16` (R75, R76). -/
def cwX (cw : CommandWord) : Int := (cw.extractLsb' 72 16).toInt

/-- Field `y`, bits 71:56, read as `sext_16`. -/
def cwY (cw : CommandWord) : Int := (cw.extractLsb' 56 16).toInt

/-- Field `w`, bits 55:40, read as `sext_16`. -/
def cwW (cw : CommandWord) : Int := (cw.extractLsb' 40 16).toInt

/-- Field `h`, bits 39:24, read as `sext_16`. -/
def cwH (cw : CommandWord) : Int := (cw.extractLsb' 24 16).toInt

/-- Field `r`, bits 23:16. -/
def cwR (cw : CommandWord) : Byte := cw.extractLsb' 16 8

/-- Field `g`, bits 15:8. -/
def cwG (cw : CommandWord) : Byte := cw.extractLsb' 8 8

/-- Field `b`, bits 7:0. -/
def cwB (cw : CommandWord) : Byte := cw.extractLsb' 0 8

/-- Why a word is no instruction. -/
inductive DecodeError where
  /-- `op` is 0x00 or 0x0A to 0xFF: the word selects no command (R79). -/
  | illegalCommand (op : BitVec 8)
  deriving DecidableEq, Repr

/-- The opcode map of R77: the decoder tests `CW[95:88]` and nothing else; every other opcode is
illegal (R79). Fields a command does not use are not read (R78). -/
def decodeCommand (cw : CommandWord) : Except DecodeError Instr :=
  match (cwOp cw).toNat with
  | 0x01 => .ok (.setpixel (cwX cw) (cwY cw) (cwR cw) (cwG cw) (cwB cw))
  | 0x02 => .ok (.getpixel (cwX cw) (cwY cw))
  | 0x03 => .ok (.clear (cwR cw) (cwG cw) (cwB cw))
  | 0x04 => .ok (.fillrect (cwX cw) (cwY cw) (cwW cw) (cwH cw) (cwR cw) (cwG cw) (cwB cw))
  | 0x05 => .ok (.setbright (cwX cw))
  | 0x06 => .ok .present
  | 0x07 => .ok .start
  | 0x08 => .ok .stop
  | 0x09 => .ok .getstatus
  | _ => .error (.illegalCommand (cwOp cw))

/-- The code of a phase (R82). -/
def phaseCode (p : Phase) : BitVec 4 :=
  match p with
  | .idle => 0x0#4
  | .rowCheck => 0x1#4
  | .blank => 0x2#4
  | .latchb => 0x3#4
  | .packU => 0x4#4
  | .packL => 0x5#4
  | .data => 0x6#4
  | .clkHi => 0x7#4
  | .clkLo => 0x8#4
  | .addr => 0x9#4
  | .latHi => 0xA#4
  | .latLo => 0xB#4
  | .oeOn => 0xC#4
  | .dwell => 0xD#4
  | .frameEnd => 0xE#4
  | .exit => 0xF#4

/-- The phase of a code: all sixteen codes are used (R82). -/
def phaseOfCode (c : BitVec 4) : Phase :=
  match c.toNat with
  | 0 => .idle
  | 1 => .rowCheck
  | 2 => .blank
  | 3 => .latchb
  | 4 => .packU
  | 5 => .packL
  | 6 => .data
  | 7 => .clkHi
  | 8 => .clkLo
  | 9 => .addr
  | 10 => .latHi
  | 11 => .latLo
  | 12 => .oeOn
  | 13 => .dwell
  | 14 => .frameEnd
  | _ => .exit

/-- The micro-operation a phase stands for: the engine fetches nothing, its program is its phase
register (20_memory.md R64, 41_row_scan.md R110). -/
def phaseInstr (p : Phase) : Instr :=
  match p with
  | .idle => .idle
  | .rowCheck => .rowCheck
  | .blank => .blank
  | .latchb => .latchb
  | .packU => .packU
  | .packL => .packL
  | .data => .data
  | .clkHi => .clkHi
  | .clkLo => .clkLo
  | .addr => .addr
  | .latHi => .latHi
  | .latLo => .latLo
  | .oeOn => .oeOn
  | .dwell => .dwell
  | .frameEnd => .frameEnd
  | .exit => .exit

/-- The two encodings of the opcode table: a 96-bit command word or a 4-bit phase code. -/
inductive Code where
  | command (cw : CommandWord)
  | phase (code : BitVec 4)
  deriving DecidableEq, Repr

/-- Decoding of either encoding. It depends on no state (R83). -/
def decode (c : Code) : Except DecodeError Instr :=
  match c with
  | .command cw => decodeCommand cw
  | .phase p => .ok (phaseInstr (phaseOfCode p))

/-- The command word with these fields (R75). -/
def packCommand (op : BitVec 8) (x y w h : Int) (r g b : Byte) : CommandWord :=
  op ++ BitVec.ofInt 16 x ++ BitVec.ofInt 16 y ++ BitVec.ofInt 16 w ++ BitVec.ofInt 16 h
    ++ r ++ g ++ b

/-- The encoder: opcodes of R77, codes of R82, unused fields 0 (R78). -/
def encode (i : Instr) : Code :=
  match i with
  | .setpixel x y r g b => .command (packCommand 0x01#8 x y 0 0 r g b)
  | .getpixel x y => .command (packCommand 0x02#8 x y 0 0 0#8 0#8 0#8)
  | .clear r g b => .command (packCommand 0x03#8 0 0 0 0 r g b)
  | .fillrect x y w h r g b => .command (packCommand 0x04#8 x y w h r g b)
  | .setbright v => .command (packCommand 0x05#8 v 0 0 0 0#8 0#8 0#8)
  | .present => .command (packCommand 0x06#8 0 0 0 0 0#8 0#8 0#8)
  | .start => .command (packCommand 0x07#8 0 0 0 0 0#8 0#8 0#8)
  | .stop => .command (packCommand 0x08#8 0 0 0 0 0#8 0#8 0#8)
  | .getstatus => .command (packCommand 0x09#8 0 0 0 0 0#8 0#8 0#8)
  | .idle => .phase 0x0#4
  | .rowCheck => .phase 0x1#4
  | .blank => .phase 0x2#4
  | .latchb => .phase 0x3#4
  | .packU => .phase 0x4#4
  | .packL => .phase 0x5#4
  | .data => .phase 0x6#4
  | .clkHi => .phase 0x7#4
  | .clkLo => .phase 0x8#4
  | .addr => .phase 0x9#4
  | .latHi => .phase 0xA#4
  | .latLo => .phase 0xB#4
  | .oeOn => .phase 0xC#4
  | .dwell => .phase 0xD#4
  | .frameEnd => .phase 0xE#4
  | .exit => .phase 0xF#4

/-- Pseudo-instruction `clear()` (R84: the defaults of `clear(r=0, g=0, b=0)`). -/
def callClear : Instr := .clear 0#8 0#8 0#8

/-- Pseudo-instruction `clear(r)` (R84). -/
def callClearR (r : Byte) : Instr := .clear r 0#8 0#8

/-- Pseudo-instruction `clear(r, g)` (R84). -/
def callClearRG (r g : Byte) : Instr := .clear r g 0#8

/-- Pseudo-instruction `show()`, the alias of `present()` (R84, R96). -/
def callShow : Instr := .present

/-- The code that an opcode-table row's bits stand for: a row of at most 8 bits is a phase (its 4 bits,
the rest 0), a longer one a command word. Both are single words, so the table's bit k is bit k. -/
def tableCode (nbits w : Nat) : Option Code :=
  if nbits ≤ 8 then
    if w < 16 then some (.phase (BitVec.ofNat 4 w)) else none
  else
    if w < 2 ^ 96 then some (.command (BitVec.ofNat 96 w)) else none

/-- What the decoder reads from an opcode-table row's bits. -/
def decodeTableWord (nbits w : Nat) : Option Instr :=
  match tableCode nbits w with
  | none => none
  | some c =>
    match decode c with
    | .ok i => some i
    | .error _ => none

end Sys2Proof
end

