-- ==== Sys2Proof/Config.lean ====
section
/-! DEFINITION. What construction fixes (00_scope.md R6, 60_exceptions.md R177) and the free values: the
open parameters, the environment's choices and the values the spec calls `any`. -/

namespace Sys2Proof

/-- One move of the environment: which agent steps, and with what input level (00_scope.md R9, R10). -/
inductive Turn where
  /-- An engine step; `ioErr` is the level of the input `io_err` in it (60_exceptions.md R179). -/
  | engine (ioErr : Bool)
  /-- A host step. -/
  | host
  /-- The reset input is asserted (70_reset_and_hazards.md R195). -/
  | reset
  deriving DecidableEq, Repr, Inhabited

/-- What a construction is given (R177): geometry, the pin of each of the 14 roles of 30_encoding.md R70
(none: a role without a pin), DWELL_TICKS, BRIGHTNESS_INIT, HAS_IO_ERR (R6). Roles in the order
R1 G1 B1 R2 G2 B2 CLK LAT OE_n ADDR0 to ADDR4. -/
structure Configuration where
  width : Nat
  height : Nat
  pins : Vector (Option Nat) 14
  dwellTicks : Nat
  brightnessInit : Byte
  hasIoErr : Bool
  deriving DecidableEq, Repr

/-- The tests of R177: geometry 64 x 64, every role a pin of its own, DWELL_TICKS at least 1. -/
def Configuration.valid (c : Configuration) : Bool :=
  decide (c.width = 64) && decide (c.height = 64) && decide (1 ≤ c.dwellTicks)
    && c.pins.toList.all Option.isSome && decide c.pins.toList.Nodup

/-- DWELL_TICKS - 1 of the machine that `State.reset` is (R6: OPEN). -/
opaque Config.dwellExtra : Nat

/-- DWELL_TICKS (R6: OPEN, an integer at least 1). -/
def Config.dwellTicks : Nat := Config.dwellExtra + 1

/-- BRIGHTNESS_INIT (R6: OPEN, a byte). -/
opaque Config.brightnessInit : Byte

/-- `any(N)`, N at most 6: the level a failed write leaves on a pin group (41_row_scan.md R114), the low
bits of draw number `k`. -/
opaque Config.anyBits (k : Nat) : BitVec 6

/-- The environment's move at draw number `k`, once the listed turns are used up (R9, R10). -/
opaque Config.turn (k : Nat) : Turn

/-- How many turns may pass before the engine's next forced one: the gap drawn at draw number `k`, of any
length (weak fairness, R9, 70_reset_and_hazards.md R203). -/
opaque Config.patience (k : Nat) : Nat

/-- The level of `io_err` in a forced engine turn at draw number `k` (60_exceptions.md R179). -/
opaque Config.ioLevel (k : Nat) : Bool

/-- The word the host presents at draw number `k`, once the listed words are used up; none: it presents
nothing in this step (70_reset_and_hazards.md R212). -/
opaque Config.hostWord (k : Nat) : Option CommandWord

/-- What the panel's registers hold at first (44_panel_observer.md R165: `any`): stages of `sr` 0 to 63,
then of `outreg`. -/
opaque Config.panelInit (k : Nat) : BitVec 6

/-- The configuration of the machine that `State.reset` is: R6's values, its OPEN ones opaque, the
identity pin assignment (R70 allows it). -/
def Config.configuration : Configuration where
  width := 64
  height := 64
  pins := Vector.ofFn fun k => some k.val
  dwellTicks := Config.dwellTicks
  brightnessInit := Config.brightnessInit
  hasIoErr := true

end Sys2Proof
end

