-- ==== Sys2Proof/Machine/State.lean ====
section
/-! DEFINITION. The state of the machine (10_state.md R20, 44_panel_observer.md R165) as plain data, its
outputs, the reasons to stop, and the state after reset (R42). -/

namespace Sys2Proof.Machine

open Sys2Proof

/-- The framebuffer as (offset, byte) cells, offsets strictly rising, no byte equal to 0, the value an
unlisted byte reads as (R42: every byte 0x00 after reset). -/
abbrev Memory := List Host.Cell

/-- `hc`, where the host port is inside the command in progress (10_state.md R38). -/
inductive HostProgress where
  /-- No command in progress: the port accepts the next word. -/
  | idle
  /-- A CLEAR: pixels with index below `i` have been written. -/
  | clearing (i : Fin 4096) (r g b : Byte)
  /-- A FILLRECT: the next pixel to attempt is `(x + dx, y + dy)`. -/
  | filling (dx dy : Nat) (x y w h : Int) (r g b : Byte)
  /-- A STOP has set `stop_req` and waits for `running = 0`. -/
  | stopping
  deriving DecidableEq, Repr

/-- A pin group with a level for it (10_state.md R33 to R37): what one pin write puts on the pins. -/
inductive PinWrite where
  | data (v : BitVec 6)
  | clk (v : Bool)
  | lat (v : Bool)
  | oeN (v : Bool)
  | addr (v : BitVec 5)
  deriving DecidableEq, Repr

/-- What the block shows the world. -/
inductive Output where
  /-- A response on RSP[31:0] (30_encoding.md R80). -/
  | response (w : Response)
  /-- A pin write, with the level that landed (00_scope.md R8, 41_row_scan.md R132). -/
  | pin (w : PinWrite)
  /-- A PeripheralFault event: cause code and the engine's position (60_exceptions.md R180). -/
  | peripheralFault (code : Byte) (phase : Phase) (row : BitVec 5) (col : BitVec 6)
  deriving DecidableEq, Repr

/-- The panel as observer of the pins (44_panel_observer.md R165); no state of the block. -/
structure Panel where
  sr : Vector (BitVec 6) 64
  outreg : Vector (BitVec 6) 64
  prevClk : Bool
  prevLat : Bool
  deriving DecidableEq, Repr

/-- What stops the machine with a fault. -/
inductive Fault where
  /-- ConfigurationError (60_exceptions.md R177, R178): raised by `construct` alone, on a configuration
  that R177 refuses; no step raises it. Safe: no machine exists then. -/
  | configurationError
  deriving DecidableEq, Repr

/-- Why an instruction has no meaning. -/
inductive Refusal where
  /-- Raised by an arm of `exec` whose instruction is not modelled; no arm is so. Safe. -/
  | notModelled (mnemonic : String)
  deriving DecidableEq, Repr

structure State where
  /-- The configuration, fixed at construction (R6, R10, R177). -/
  cfg : Configuration
  /-- `fb` (R21). -/
  fb : Memory
  /-- `brightness` (R22). -/
  brightness : Byte
  /-- `running` (R23). -/
  running : Bool
  /-- `stop_req` (R24). -/
  stopReq : Bool
  /-- `status`: bit 0 PF, bit 1 IC (R25). -/
  status : BitVec 2
  /-- `phase` (R26). -/
  phase : Phase
  /-- `row` (R27). -/
  row : BitVec 5
  /-- `col` (R28). -/
  col : BitVec 6
  /-- `rowbuf` (R29). -/
  rowbuf : Vector Byte 64
  /-- `pix_tmp`: bit 0 R, bit 1 G, bit 2 B (R30). -/
  pixTmp : BitVec 3
  /-- `bright_lat` (R31). -/
  brightLat : Byte
  /-- `dwell_cnt` (R32). -/
  dwellCnt : Nat
  /-- Pins `DATA[5:0]` (R33). -/
  pinData : BitVec 6
  /-- Pin `CLK` (R34). -/
  pinClk : Bool
  /-- Pin `LAT` (R35). -/
  pinLat : Bool
  /-- Pin `OE_n`: true is level 1, blank (R36). -/
  pinOeN : Bool
  /-- Pins `ADDR[4:0]` (R37). -/
  pinAddr : BitVec 5
  /-- `hc` (R38). -/
  hc : HostProgress
  /-- The observer (R165). -/
  panel : Panel
  /-- The level of the input `io_err` in the present step (R179). -/
  ioErr : Bool
  /-- The model's own: the turns to come, first first (R9, R10). -/
  schedule : List Turn
  /-- The model's own: how many unlisted turns may still pass before the engine must have one (R9). -/
  patience : Nat
  /-- The model's own: the words the host has yet to present, first first (R81). -/
  cmds : List CommandWord
  /-- The model's own: how many free values have been drawn. -/
  draws : Nat
  /-- The model's own: the outputs so far, newest first. -/
  trace : List Output
  deriving DecidableEq, Repr

/-- The state a successful construction with `c` yields (R177, R195): the values of R42. Where R42 says
"unspecified" (`rowbuf`, `pix_tmp`, `bright_lat`) the value is 0 (log 8). -/
def State.resetOf (c : Configuration) (p : Panel) : State where
  cfg := c
  fb := []
  brightness := c.brightnessInit
  running := false
  stopReq := false
  status := 0#2
  phase := .idle
  row := 0#5
  col := 0#6
  rowbuf := Vector.replicate 64 0#8
  pixTmp := 0#3
  brightLat := 0#8
  dwellCnt := 0
  pinData := 0#6
  pinClk := false
  pinLat := false
  pinOeN := true
  pinAddr := 0#5
  hc := .idle
  panel := p
  ioErr := false
  schedule := []
  patience := 0
  cmds := []
  draws := 0
  trace := []

/-- The panel before the first pin write: contents `any` (R165), previous levels those of the pins at
reset (log 14). -/
def Panel.initial : Panel where
  sr := Vector.ofFn fun k => Config.panelInit k.val
  outreg := Vector.ofFn fun k => Config.panelInit (64 + k.val)
  prevClk := false
  prevLat := false

/-- The machine right after reset (R42, R195, R196). -/
def State.reset : State := State.resetOf Config.configuration Panel.initial

end Sys2Proof.Machine
end

