-- ==== Sys2Proof/Machine/Flags.lean ====
section
/-! DEFINITION. The sticky status flags (10_state.md R25), the cause codes (60_exceptions.md R175) and the
response words (30_encoding.md R80). -/

namespace Sys2Proof.Machine

open Sys2Proof

/-- `status.PF`, bit 0 (R25). -/
def State.pf (s : State) : Bool := s.status.getLsbD 0

/-- `status.IC`, bit 1 (R25). -/
def State.ic (s : State) : Bool := s.status.getLsbD 1

/-- `status.PF <- 1`, the other bit kept (R180). -/
def State.setPf (s : State) : State := { s with status := s.status ||| 0b01#2 }

/-- `status.IC <- 1`, the other bit kept (R184). -/
def State.setIc (s : State) : State := { s with status := s.status ||| 0b10#2 }

/-- The five exceptional conditions (R175). -/
inductive Cause where
  | configurationError
  | peripheralFault
  | boundsViolation
  | lifecycleMisuse
  | illegalCommand
  deriving DecidableEq, Repr

/-- The cause codes of R175. -/
def causeCode (c : Cause) : Byte :=
  match c with
  | .configurationError => 0x01#8
  | .peripheralFault => 0x02#8
  | .boundsViolation => 0x03#8
  | .lifecycleMisuse => 0x04#8
  | .illegalCommand => 0x05#8

/-- Response `done` (R80). -/
def rspDone : Response := 0#32

/-- Response `pixel`: kind 1, `in_bounds`, the three bytes (R80). -/
def rspPixel (inB : Bool) (p : Byte × Byte × Byte) : Response :=
  0x1#4 ++ 0#3 ++ BitVec.ofBool inB ++ p.1 ++ p.2.1 ++ p.2.2

/-- Response `status`: kind 2 and the byte with IC at bit 1, PF at bit 0 (R80). -/
def rspStatus (status : BitVec 2) : Response := 0x2#4 ++ 0#26 ++ status

/-- Response `error`: kind 15 and a cause code (R80). -/
def rspError (c : Cause) : Response := 0xF#4 ++ 0#20 ++ causeCode c

end Sys2Proof.Machine
end

