-- ==== Sys2Proof/Machine/Panel.lean ====
section
/-! DEFINITION. How pin levels move the observer and what it shows (44_panel_observer.md R166 to R169). -/

namespace Sys2Proof.Machine

open Sys2Proof

/-- `sr[k+1] <- sr[k]` for `k = 62 .. 0`, then `sr[0] <- d` (R167). -/
def shiftIn (sr : Vector (BitVec 6) 64) (d : BitVec 6) : Vector (BitVec 6) 64 :=
  Vector.ofFn fun k => if k.val = 0 then d else sr[k.val - 1]

/-- One pin event seen by the panel: a rise of CLK shifts `DATA` in (R167), a rise of LAT copies `sr` to
`outreg` (R168), a falling edge does nothing; the levels become the previous ones (R165). -/
def Panel.observe (p : Panel) (d : BitVec 6) (clk lat : Bool) : Panel where
  sr := if !p.prevClk && clk then shiftIn p.sr d else p.sr
  outreg := if !p.prevLat && lat then p.sr else p.outreg
  prevClk := clk
  prevLat := lat

/-- The colour bits of the LED at column `x`, panel row `y` (R169): bit 0 R, bit 1 G, bit 2 B. Dark unless
`OE_n = 0` and the row belongs to the addressed row-pair. -/
def State.led (s : State) (x y : Nat) : BitVec 3 :=
  if s.pinOeN then 0#3
  else if h : x < 64 then
    if y = s.pinAddr.toNat then s.panel.outreg[63 - x].extractLsb' 0 3
    else if y = s.pinAddr.toNat + 32 then s.panel.outreg[63 - x].extractLsb' 3 3
    else 0#3
  else 0#3

end Sys2Proof.Machine
end

