-- ==== Sys2Proof/Machine/Ops.lean ====
section
/-! DEFINITION. The named operations over memory, outputs and pins; raising an exception; reset. -/

namespace Sys2Proof.Machine

open Sys2Proof

/-! ### Memory -/

/-- The byte at offset `a`; an unlisted byte is 0x00 (10_state.md R42). -/
def Memory.read (m : Memory) (a : Nat) : Byte :=
  match m with
  | [] => 0#8
  | c :: rest => if c.1 = a then c.2 else Memory.read rest a

/-- Every entry for offset `a` taken out. -/
def Memory.erase (m : Memory) (a : Nat) : Memory :=
  match m with
  | [] => []
  | c :: rest => if c.1 = a then Memory.erase rest a else c :: Memory.erase rest a

/-- An entry put in at its place in the rising order. -/
def Memory.insert (m : Memory) (a : Nat) (v : Byte) : Memory :=
  match m with
  | [] => [(a, v)]
  | c :: rest => if a < c.1 then (a, v) :: c :: rest else c :: Memory.insert rest a v

/-- Writing one byte keeps the canonical form: the value 0 removes the entry. -/
def Memory.write (m : Memory) (a : Nat) (v : Byte) : Memory :=
  if v = 0#8 then Memory.erase m a else Memory.insert (Memory.erase m a) a v

/-- The canonical form: offsets strictly rising and below 12288, no byte equal to 0 (20_memory.md R50). -/
def Memory.wf (m : Memory) : Bool :=
  match m with
  | [] => true
  | c :: rest =>
    decide (c.1 < 12288) && decide (c.2 ≠ 0#8) && rest.all (fun d => decide (c.1 < d.1)) && Memory.wf rest

/-- `MemRead(addr, 3)` (00_scope.md R8). -/
def Memory.read3 (m : Memory) (a : Nat) : Byte × Byte × Byte :=
  (Memory.read m a, Memory.read m (a + 1), Memory.read m (a + 2))

/-- `MemWrite(addr, 3, [r, g, b])`: R at the lowest offset, then G, then B (R8, 20_memory.md R53). -/
def Memory.write3 (m : Memory) (a : Nat) (r g b : Byte) : Memory :=
  Memory.write (Memory.write (Memory.write m a r) (a + 1) g) (a + 2) b

/-! ### Outputs and position -/

/-- An output is added to the trace. -/
def State.emit (s : State) (o : Output) : State := { s with trace := o :: s.trace }

/-- `respond(w)` (R8, 30_encoding.md R80). -/
def State.respond (s : State) (w : Response) : State := s.emit (.response w)

/-- `phase <- p`. -/
def State.goto (s : State) (p : Phase) : State := { s with phase := p }

/-! ### Exceptions (60_exceptions.md): no exception transfers control, so there is no entry and no
return (R187); raising one is recording it (R8). -/

/-- `raise c`: what R175 records for each condition. PeripheralFault: the sticky flag and one event with
the engine's position (R180). IllegalCommand: the sticky flag and the error response (R184).
BoundsViolation and LifecycleMisuse: nothing (R182, R183). ConfigurationError concerns construction, where
there is no state (R178). -/
def State.raise (s : State) (c : Cause) : State :=
  match c with
  | .configurationError => s
  | .peripheralFault => s.setPf.emit (.peripheralFault (causeCode .peripheralFault) s.phase s.row s.col)
  | .boundsViolation => s
  | .lifecycleMisuse => s
  | .illegalCommand => s.setIc.respond (rspError .illegalCommand)

/-! ### Pins -/

/-- The pin group takes the level, the write is an event of the trace (R8), and the panel sees the
levels (44_panel_observer.md R166). -/
def State.drive (s : State) (w : PinWrite) : State :=
  match w with
  | .data v =>
    { s with pinData := v, panel := s.panel.observe v s.pinClk s.pinLat, trace := .pin w :: s.trace }
  | .clk v =>
    { s with pinClk := v, panel := s.panel.observe s.pinData v s.pinLat, trace := .pin w :: s.trace }
  | .lat v =>
    { s with pinLat := v, panel := s.panel.observe s.pinData s.pinClk v, trace := .pin w :: s.trace }
  | .oeN v =>
    { s with pinOeN := v, panel := s.panel.observe s.pinData s.pinClk s.pinLat, trace := .pin w :: s.trace }
  | .addr v =>
    { s with pinAddr := v, panel := s.panel.observe s.pinData s.pinClk s.pinLat, trace := .pin w :: s.trace }

/-- The same pin group with `any` of its width: the low bits of `bits`. -/
def PinWrite.withBits (w : PinWrite) (bits : BitVec 6) : PinWrite :=
  match w with
  | .data _ => .data bits
  | .clk _ => .clk (bits.getLsbD 0)
  | .lat _ => .lat (bits.getLsbD 0)
  | .oeN _ => .oeN (bits.getLsbD 0)
  | .addr _ => .addr (bits.setWidth 5)

/-- Whether a pin write of this step fails: `io_err`, which HAS_IO_ERR = false ties to 0 (R179). -/
def State.ioFails (s : State) : Bool := s.cfg.hasIoErr && s.ioErr

/-- A free value is used up. -/
def State.drawn (s : State) : State := { s with draws := s.draws + 1 }

/-- `PinWrite(P, v)` (41_row_scan.md R114): on `io_err` the pin takes `any`, a fresh draw, and
PeripheralFault is raised; the micro-operation goes on after it either way. -/
def State.pinWrite (s : State) (w : PinWrite) : State :=
  if s.ioFails then ((s.drive (w.withBits (Config.anyBits s.draws))).drawn).raise .peripheralFault
  else s.drive w

/-! ### Reset -/

/-- The reset move (70_reset_and_hazards.md R195): every item of the block at its reset value, the command
in progress dropped without a response, the pins driven directly. What is not the block's stays: the
configuration, the panel's registers (R197; it sees the pins' reset levels), the environment's choices,
the outputs so far. -/
def State.assertReset (s : State) : State :=
  { State.resetOf s.cfg { s.panel with prevClk := false, prevLat := false } with
    ioErr := s.ioErr, schedule := s.schedule, patience := s.patience, cmds := s.cmds, draws := s.draws
    trace := s.trace }

end Sys2Proof.Machine
end

