-- ==== Sys2Proof/Machine/Operands.lean ====
section
/-! DEFINITION. Operand forms: the bounds test, the pixel offset, pixel reads and writes, the brightness
clamp, the row buffer. -/

namespace Sys2Proof.Machine

open Sys2Proof

/-- `InBounds(x, y)` on the integers (40_pixel_api.md R90). -/
def inBounds (x y : Int) : Bool :=
  decide (0 ≤ x) && decide (x < 64) && decide (0 ≤ y) && decide (y < 64)

/-- `off(x, y) = (y*64 + x)*3` (20_memory.md R52). -/
def pixOff (x y : Nat) : Nat := (y * 64 + x) * 3

/-- `PixRead(x, y)`: one atomic access (R8, R56). -/
def State.pixRead (s : State) (x y : Nat) : Byte × Byte × Byte := Memory.read3 s.fb (pixOff x y)

/-- `PixWrite(x, y, r, g, b)`: one atomic access (R8, R56). -/
def State.pixWrite (s : State) (x y : Nat) (r g b : Byte) : State :=
  { s with fb := Memory.write3 s.fb (pixOff x y) r g b }

/-- The write of one pixel at integer coordinates: dropped when out of bounds (R55, R182). -/
def State.putPixel (s : State) (x y : Int) (r g b : Byte) : State :=
  if inBounds x y then s.pixWrite x.toNat y.toNat r g b else s.raise .boundsViolation

/-- The clamp of a brightness operand to 0 .. 255 (30_encoding.md R76). -/
def clampByte (v : Int) : Byte :=
  if v < 0 then 0#8 else if 255 < v then 255#8 else BitVec.ofInt 8 v

/-- `rowbuf[col]` (R8). -/
def State.rowWord (s : State) (col : BitVec 6) : Byte := s.rowbuf[col.toNat]'col.isLt

/-- `rowbuf[col] <- w` (R8). -/
def State.setRowWord (s : State) (col : BitVec 6) (w : Byte) : State :=
  { s with rowbuf := s.rowbuf.set col.toNat w col.isLt }

end Sys2Proof.Machine
end

