-- ==== Sys2Proof/Machine/PixelApi.lean ====
section
/-! DEFINITION. The Pixel API commands (40_pixel_api.md). A meaning is the step in which the port accepts
the command; CLEAR and FILLRECT go on in later host steps (`State.clearStep`, `State.fillStep`). -/

namespace Sys2Proof.Machine

open Sys2Proof

/-- SETPIXEL (R91). -/
def execSetpixel (x y : Int) (r g b : Byte) (s : State) : Host.Outcome State Fault Refusal :=
  .next ((s.putPixel x y r g b).respond rspDone)

/-- GETPIXEL (R92): the stored bytes, unscaled; out of bounds `in_bounds = 0` and zero colour. -/
def execGetpixel (x y : Int) (s : State) : Host.Outcome State Fault Refusal :=
  .next
    (if inBounds x y then s.respond (rspPixel true (s.pixRead x.toNat y.toNat))
    else (s.raise .boundsViolation).respond (rspPixel false (0#8, 0#8, 0#8)))

/-- One step of a CLEAR (R93): pixel `i` in row-major order is written; after pixel 4095 the port is idle
and the response is given in the same step. -/
def State.clearStep (s : State) (i : Fin 4096) (r g b : Byte) : State :=
  if h : i.val < 4095 then
    { s.pixWrite (i.val % 64) (i.val / 64) r g b with hc := .clearing ⟨i.val + 1, by omega⟩ r g b }
  else
    ({ s.pixWrite (i.val % 64) (i.val / 64) r g b with hc := .idle } : State).respond rspDone

/-- CLEAR (R93): acceptance and the first pixel write are one step (log 12). -/
def execClear (r g b : Byte) (s : State) : Host.Outcome State Fault Refusal :=
  .next (s.clearStep 0 r g b)

/-- One step of a FILLRECT (R94): the pixel `(x + dx, y + dy)`, exact integers, is written or dropped; `dx`
is the inner loop; after the last pixel the port is idle and the response is given in the same step. -/
def State.fillStep (s : State) (dx dy : Nat) (x y w h : Int) (r g b : Byte) : State :=
  if (dx : Int) + 1 < w then
    { s.putPixel (x + dx) (y + dy) r g b with hc := .filling (dx + 1) dy x y w h r g b }
  else if (dy : Int) + 1 < h then
    { s.putPixel (x + dx) (y + dy) r g b with hc := .filling 0 (dy + 1) x y w h r g b }
  else
    ({ s.putPixel (x + dx) (y + dy) r g b with hc := .idle } : State).respond rspDone

/-- FILLRECT (R94): an empty rectangle responds at once; else acceptance and the first pixel are one step
(log 12). -/
def execFillrect (x y w h : Int) (r g b : Byte) (s : State) : Host.Outcome State Fault Refusal :=
  .next (if w ≤ 0 ∨ h ≤ 0 then s.respond rspDone else s.fillStep 0 0 x y w h r g b)

/-- SETBRIGHT (R95). -/
def execSetbright (value : Int) (s : State) : Host.Outcome State Fault Refusal :=
  .next (({ s with brightness := clampByte value } : State).respond rspDone)

/-- PRESENT (R96): nothing but the response. -/
def execPresent (s : State) : Host.Outcome State Fault Refusal :=
  .next (s.respond rspDone)

/-- GETSTATUS (R98): reading does not clear. -/
def execGetstatus (s : State) : Host.Outcome State Fault Refusal :=
  .next (s.respond (rspStatus s.status))

end Sys2Proof.Machine
end

