-- ==== Sys2Proof/Machine/Quantizer.lean ====
section
/-! DEFINITION. The pixel quantizer (42_quantizer.md R140 to R146) and the packed word (30_encoding.md
R72). -/

namespace Sys2Proof.Machine

open Sys2Proof

/-- `prod[15:0] = c * br`, exact (R140). -/
def quantProd (c br : Byte) : BitVec 16 := c.setWidth 16 * br.setWidth 16

/-- `scaled[7:0] = prod[15:8]` (R140). -/
def quantScaled (c br : Byte) : BitVec 8 := (quantProd c br).extractLsb' 8 8

/-- `Q(c, br)`: 1 if `scaled >= 128`, else 0 (R140; the formula, not D0's examples: C2, C3). -/
def quantize (c br : Byte) : Bool := decide (128 ≤ (quantScaled c br).toNat)

/-- `Qpix((r, g, b), br)`: bit 0 R, bit 1 G, bit 2 B (R144). -/
def quantizePixel (p : Byte × Byte × Byte) (br : Byte) : BitVec 3 :=
  BitVec.ofBool (quantize p.2.2 br) ++ BitVec.ofBool (quantize p.2.1 br) ++ BitVec.ofBool (quantize p.1 br)

/-- `Qinv`, the pre-image of one bit (R146). -/
def quantizeInv (bit : Bool) : Byte := if bit then 255#8 else 0#8

/-- The packed word of a column, `00, lower, upper` (R72, R117). -/
def packWord (upper lower : BitVec 3) : Byte := 0#2 ++ lower ++ upper

end Sys2Proof.Machine
end

