-- ==== Sys2Proof/Machine/RowScan.lean ====
section
/-! DEFINITION. The sixteen micro-operations of the row-scan sequencer (41_row_scan.md). -/

namespace Sys2Proof.Machine

open Sys2Proof

/-- IDLE (R111): reads nothing, writes nothing, stays. -/
def execIdle (s : State) : Host.Outcome State Fault Refusal :=
  .next s

/-- ROW_CHECK (R112): the one place where the engine reads `stop_req`. -/
def execRowCheck (s : State) : Host.Outcome State Fault Refusal :=
  .next (s.goto (if s.stopReq then .exit else .blank))

/-- BLANK (R113). -/
def execBlank (s : State) : Host.Outcome State Fault Refusal :=
  .next ((s.pinWrite (.oeN true)).goto .latchb)

/-- LATCHB (R115). -/
def execLatchb (s : State) : Host.Outcome State Fault Refusal :=
  .next (({ s with brightLat := s.brightness, col := 0#6 } : State).goto .packU)

/-- PACK_U (R116): pixel `(col, row)`. -/
def execPackU (s : State) : Host.Outcome State Fault Refusal :=
  .next
    (({ s with pixTmp := quantizePixel (s.pixRead s.col.toNat s.row.toNat) s.brightLat } : State).goto .packL)

/-- `col` moves to the next column, or back to 0 after column 63 (R117, R122): phase `more` or `last`. -/
def State.nextCol (s : State) (more last : Phase) : State :=
  if s.col = 63#6 then { s with col := 0#6, phase := last } else { s with col := s.col + 1#6, phase := more }

/-- PACK_L (R117): pixel `(col, row + 32)`. -/
def execPackL (s : State) : Host.Outcome State Fault Refusal :=
  .next
    ((s.setRowWord s.col
      (packWord s.pixTmp (quantizePixel (s.pixRead s.col.toNat (s.row.toNat + 32)) s.brightLat))).nextCol
        .packU .data)

/-- DATA (R120). -/
def execData (s : State) : Host.Outcome State Fault Refusal :=
  .next ((s.pinWrite (.data ((s.rowWord s.col).extractLsb' 0 6))).goto .clkHi)

/-- CLK_HI (R121). -/
def execClkHi (s : State) : Host.Outcome State Fault Refusal :=
  .next ((s.pinWrite (.clk true)).goto .clkLo)

/-- CLK_LO (R122). -/
def execClkLo (s : State) : Host.Outcome State Fault Refusal :=
  .next ((s.pinWrite (.clk false)).nextCol .data .addr)

/-- ADDR (R123). -/
def execAddr (s : State) : Host.Outcome State Fault Refusal :=
  .next ((s.pinWrite (.addr s.row)).goto .latHi)

/-- LAT_HI (R124). -/
def execLatHi (s : State) : Host.Outcome State Fault Refusal :=
  .next ((s.pinWrite (.lat true)).goto .latLo)

/-- LAT_LO (R125). -/
def execLatLo (s : State) : Host.Outcome State Fault Refusal :=
  .next ((s.pinWrite (.lat false)).goto .oeOn)

/-- OE_ON (R126). -/
def execOeOn (s : State) : Host.Outcome State Fault Refusal :=
  .next (({ s.pinWrite (.oeN false) with dwellCnt := s.cfg.dwellTicks - 1 } : State).goto .dwell)

/-- `advance_row` (R128). -/
def State.advanceRow (s : State) : State :=
  if s.row = 31#5 then s.goto .frameEnd else ({ s with row := s.row + 1#5 } : State).goto .rowCheck

/-- DWELL (R127). -/
def execDwell (s : State) : Host.Outcome State Fault Refusal :=
  .next (if 0 < s.dwellCnt then { s with dwellCnt := s.dwellCnt - 1 } else s.advanceRow)

/-- FRAME_END (R129). -/
def execFrameEnd (s : State) : Host.Outcome State Fault Refusal :=
  .next (({ s.pinWrite (.oeN true) with row := 0#5 } : State).goto .rowCheck)

/-- EXIT (R130): one atomic step. -/
def execExit (s : State) : Host.Outcome State Fault Refusal :=
  .next (({ s.pinWrite (.oeN true) with running := false, stopReq := false } : State).goto .idle)

end Sys2Proof.Machine
end

