-- ==== Sys2Proof/Machine/Scheduler.lean ====
section
/-! DEFINITION. The scheduler commands START and STOP (43_scheduler.md). -/

namespace Sys2Proof.Machine

open Sys2Proof

/-- START (R151); while running it is LifecycleMisuse, a no-op (R152, R183). It responds at once and
touches no pin. -/
def execStart (s : State) : Host.Outcome State Fault Refusal :=
  .next
    (if s.running then (s.raise .lifecycleMisuse).respond rspDone
    else
      ({ s with running := true, stopReq := false, row := 0#5, col := 0#6, phase := .rowCheck } : State).respond
        rspDone)

/-- STOP, first step (R153); while stopped it is LifecycleMisuse and responds at once (R155, R183). -/
def execStop (s : State) : Host.Outcome State Fault Refusal :=
  .next
    (if s.running then { s with stopReq := true, hc := .stopping }
    else (s.raise .lifecycleMisuse).respond rspDone)

/-- STOP, second step (R153): enabled only when `running = 0`; until then the host waits (R154). -/
def State.stopStep (s : State) : State :=
  if s.running then s else ({ s with hc := .idle } : State).respond rspDone

end Sys2Proof.Machine
end

