-- ==== Sys2Proof/Machine/Dispatch.lean ====
section
/-! DEFINITION. The dispatch: one arm for each instruction. -/

namespace Sys2Proof.Machine

open Sys2Proof

def exec (i : Instr) (s : State) : Host.Outcome State Fault Refusal :=
  match i with
  | .setpixel x y r g b => Sys2Proof.Machine.execSetpixel x y r g b s
  | .getpixel x y => Sys2Proof.Machine.execGetpixel x y s
  | .clear r g b => Sys2Proof.Machine.execClear r g b s
  | .fillrect x y w h r g b => Sys2Proof.Machine.execFillrect x y w h r g b s
  | .setbright value => Sys2Proof.Machine.execSetbright value s
  | .present => Sys2Proof.Machine.execPresent s
  | .start => Sys2Proof.Machine.execStart s
  | .stop => Sys2Proof.Machine.execStop s
  | .getstatus => Sys2Proof.Machine.execGetstatus s
  | .idle => Sys2Proof.Machine.execIdle s
  | .rowCheck => Sys2Proof.Machine.execRowCheck s
  | .blank => Sys2Proof.Machine.execBlank s
  | .latchb => Sys2Proof.Machine.execLatchb s
  | .packU => Sys2Proof.Machine.execPackU s
  | .packL => Sys2Proof.Machine.execPackL s
  | .data => Sys2Proof.Machine.execData s
  | .clkHi => Sys2Proof.Machine.execClkHi s
  | .clkLo => Sys2Proof.Machine.execClkLo s
  | .addr => Sys2Proof.Machine.execAddr s
  | .latHi => Sys2Proof.Machine.execLatHi s
  | .latLo => Sys2Proof.Machine.execLatLo s
  | .oeOn => Sys2Proof.Machine.execOeOn s
  | .dwell => Sys2Proof.Machine.execDwell s
  | .frameEnd => Sys2Proof.Machine.execFrameEnd s
  | .exit => Sys2Proof.Machine.execExit s

end Sys2Proof.Machine
end

