-- ==== Sys2Proof/Machine/Agents.lean ====
section
/-! DEFINITION. One turn of an agent: the engine's step, the host's step at the command port, and where
the environment's choices come from (00_scope.md R9, R10). -/

namespace Sys2Proof.Machine

open Sys2Proof

/-- The environment's next move: the first listed turn, or a free value when none is listed. The free
turns are weakly fair to the engine and nothing stronger (00_scope.md R9, 70_reset_and_hazards.md R203):
each unlisted turn uses up one of `patience`; at 0 the turn is the engine's and the next gap, of any length,
is drawn. -/
def State.nextTurn (s : State) : Turn × State :=
  match s.schedule, s.patience with
  | t :: rest, _ => (t, { s with schedule := rest })
  | [], 0 => (.engine (Config.ioLevel s.draws), { s.drawn with patience := Config.patience s.draws })
  | [], k + 1 => (Config.turn s.draws, { s.drawn with patience := k })

/-- The word the host presents next, if any: the first listed word, or a free value when none is
listed. -/
def State.nextWord (s : State) : Option CommandWord × State :=
  match s.cmds with
  | cw :: rest => (some cw, { s with cmds := rest })
  | [] => (Config.hostWord s.draws, s.drawn)

/-- The port accepts a word and decodes it (30_encoding.md R77, R81); a word that is no command is
IllegalCommand (R79, 60_exceptions.md R184); no word, no step. -/
def acceptWord (cw : Option CommandWord) (s : State) : Host.Outcome State Fault Refusal :=
  match cw with
  | none => .next s
  | some cw =>
    match decodeCommand cw with
    | .ok i => exec i s
    | .error _ => .next (s.raise .illegalCommand)

/-- A host step: the port accepts a word only when `hc = Idle`, else the command in progress makes its
next micro-step (10_state.md R38, R81). -/
def hostStep (s : State) : Host.Outcome State Fault Refusal :=
  match s.hc with
  | .idle => acceptWord s.nextWord.1 s.nextWord.2
  | .clearing i r g b => .next (s.clearStep i r g b)
  | .filling dx dy x y w h r g b => .next (s.fillStep dx dy x y w h r g b)
  | .stopping => .next s.stopStep

/-- An engine step: the micro-operation of the phase register, with this level of `io_err`
(41_row_scan.md R110, R179). -/
def engineStep (ioErr : Bool) (s : State) : Host.Outcome State Fault Refusal :=
  exec (phaseInstr s.phase) { s with ioErr := ioErr }

/-- One move. -/
def takeTurn (t : Turn) (s : State) : Host.Outcome State Fault Refusal :=
  match t with
  | .engine ioErr => engineStep ioErr s
  | .host => hostStep s
  | .reset => .next s.assertReset

/-- A code placed where the next step takes its instruction from: a phase in the phase register, with the
`running` flag that goes with it (10_state.md R23), and an engine turn next; a command word at the head of
the host's words, with the port idle, and a host turn next. -/
def State.place (s : State) (c : Code) : State :=
  match c with
  | .phase p =>
    { s with
      phase := phaseOfCode p
      running := decide (phaseOfCode p ≠ .idle)
      schedule := .engine s.ioErr :: s.schedule }
  | .command cw => { s with hc := .idle, cmds := cw :: s.cmds, schedule := .host :: s.schedule }

end Sys2Proof.Machine
end

