-- ==== Sys2Proof/Machine/Step.lean ====
section
/-! DEFINITION. One step of the machine: the environment's next move is made. -/

namespace Sys2Proof.Machine

open Sys2Proof

/-- Steps are atomic and interleave as the turns say (00_scope.md R9). -/
def step (s : State) : Host.Outcome State Fault Refusal :=
  takeTurn s.nextTurn.1 s.nextTurn.2

/-- `s` with this opcode-table instruction placed where `step` takes its next instruction; bits that are
no row's leave `s` as it is. -/
def State.withFetchWord (s : State) (nbits w : Nat) : State :=
  match tableCode nbits w with
  | none => s
  | some c => s.place c

end Sys2Proof.Machine
end

