-- ==== Sys2Proof/Machine/Construct.lean ====
section
/-! DEFINITION. Construction of the block (60_exceptions.md R177, R178). -/

namespace Sys2Proof.Machine

open Sys2Proof

/-- The partial function from configurations to initial states of R178: the reset state, or
ConfigurationError and no block. -/
def construct (c : Configuration) : Host.Outcome State Fault Refusal :=
  if c.valid then .next (State.resetOf c Panel.initial) else .fault .configurationError

end Sys2Proof.Machine
end

