-- ==== Sys2Proof/Safety.lean ====
section
/-! DEFINITION. The terms that claims about the machine use: invariants, what a pin write does, what a
panel shows, the pin trace of a row. -/

namespace Sys2Proof.Machine

open Sys2Proof

/-! ### Invariants -/

/-- The framebuffer is in its canonical form (20_memory.md R50). -/
abbrev MemoryOk (s : State) : Prop := Memory.wf s.fb = true

/-- The scheduler flags, the phase and the STOP in progress agree (10_state.md R23, R24,
43_scheduler.md R150, R153). -/
abbrev SchedulerOk (s : State) : Prop :=
  (s.running = false ↔ s.phase = .idle) ∧
  (s.stopReq = true → s.running = true) ∧
  (s.stopReq = true → s.hc = .stopping) ∧
  (s.hc = .stopping → s.running = true → s.stopReq = true)

/-- Bits 7 and 6 of every `rowbuf` entry are 0 (10_state.md R29). -/
abbrev RowbufOk (s : State) : Prop := ∀ k, (h : k < 64) → s.rowbuf[k].toNat < 64

/-- `dwell_cnt` fits the width R32 gives it. -/
abbrev DwellOk (s : State) : Prop := s.dwellCnt < s.cfg.dwellTicks

/-- A FILLRECT in progress stands inside its rectangle, whose operands fit the command word
(10_state.md R38, 40_pixel_api.md R94). -/
def PortOk (s : State) : Prop :=
  match s.hc with
  | .idle => True
  | .clearing _ _ _ _ => True
  | .filling dx dy x y w h _ _ _ =>
    (dx : Int) < w ∧ (dy : Int) < h ∧
      fitsSext16 x = true ∧ fitsSext16 y = true ∧ fitsSext16 w = true ∧ fitsSext16 h = true
  | .stopping => True

/-- The observer's previous levels are the pins' levels (44_panel_observer.md R165). -/
abbrev PanelOk (s : State) : Prop := s.panel.prevClk = s.pinClk ∧ s.panel.prevLat = s.pinLat

/-! ### What the panel holds -/

/-- Stage `k` of the panel's shift chain. -/
def State.stage (s : State) (k : Nat) : BitVec 6 := s.panel.sr[k]?.getD 0#6

/-- Output register `k` of the panel. -/
def State.latch (s : State) (k : Nat) : BitVec 6 := s.panel.outreg[k]?.getD 0#6

/-- The six data bits of `rowbuf[x]`. -/
def State.word (s : State) (x : Nat) : BitVec 6 := (s.rowbuf[x]?.getD 0#8).extractLsb' 0 6

/-- The words of columns 0 to `n - 1` have been shifted in, the last of them at stage 0 (R167). -/
def Shifted (s : State) (n : Nat) : Prop := ∀ x, x < n → s.stage (n - 1 - x) = s.word x

/-- The output registers hold the row buffer, column `x` at register `63 - x` (R168, R169). -/
def Latched (s : State) : Prop := ∀ x, x < 64 → s.latch (63 - x) = s.word x

/-- The row-pair being shown while the panel is lit: `row`, but in ROW_CHECK, BLANK and EXIT "the row just
shown" (41_row_scan.md R112), which is the one before `row`, since the last DWELL step has moved `row` on
while "the panel stays lit on the finished row" (R128). It is the `row` of 10_state.md R40 and
44_panel_observer.md R170 (log 15). -/
def State.rowShown (s : State) : BitVec 5 :=
  match s.phase with
  | .rowCheck | .blank | .exit => s.row - 1#5
  | .idle | .latchb | .packU | .packL | .data | .clkHi | .clkLo | .addr | .latHi | .latLo | .oeOn
  | .dwell | .frameEnd => s.row

/-- Where the pins, the panel and the row buffer stand in each phase of a run without PeripheralFault
(41_row_scan.md R131, 44_panel_observer.md R170). In ROW_CHECK, BLANK and EXIT the panel may still show
the row before `row` (R112, R128; log 15). -/
def DisplayOk (s : State) : Prop :=
  s.pf = false →
    match s.phase with
    | .idle => s.pinOeN = true ∧ s.pinClk = false ∧ s.pinLat = false
    | .rowCheck | .blank | .exit =>
      s.pinClk = false ∧ s.pinLat = false ∧
        (s.pinOeN = false → s.row ≠ 0#5 ∧ s.pinAddr + 1#5 = s.row ∧ Latched s)
    | .latchb | .packU | .packL => s.pinOeN = true ∧ s.pinClk = false ∧ s.pinLat = false
    | .data => s.pinOeN = true ∧ s.pinClk = false ∧ s.pinLat = false ∧ Shifted s s.col.toNat
    | .clkHi =>
      s.pinOeN = true ∧ s.pinClk = false ∧ s.pinLat = false ∧ Shifted s s.col.toNat ∧
        s.pinData = s.word s.col.toNat
    | .clkLo => s.pinOeN = true ∧ s.pinClk = true ∧ s.pinLat = false ∧ Shifted s (s.col.toNat + 1)
    | .addr => s.pinOeN = true ∧ s.pinClk = false ∧ s.pinLat = false ∧ Shifted s 64
    | .latHi =>
      s.pinOeN = true ∧ s.pinClk = false ∧ s.pinLat = false ∧ s.pinAddr = s.row ∧ Shifted s 64
    | .latLo => s.pinOeN = true ∧ s.pinClk = false ∧ s.pinLat = true ∧ s.pinAddr = s.row ∧ Latched s
    | .oeOn => s.pinOeN = true ∧ s.pinClk = false ∧ s.pinLat = false ∧ s.pinAddr = s.row ∧ Latched s
    | .dwell => s.pinOeN = false ∧ s.pinClk = false ∧ s.pinLat = false ∧ s.pinAddr = s.row ∧ Latched s
    | .frameEnd =>
      s.pinOeN = false ∧ s.pinClk = false ∧ s.pinLat = false ∧ s.pinAddr = s.row ∧ s.row = 31#5 ∧
        Latched s

/-! ### What a step does -/

/-- The pin group of `w` stands at the level of `w`. -/
abbrev State.onPins (s : State) (w : PinWrite) : Prop :=
  match w with
  | .data v => s.pinData = v
  | .clk v => s.pinClk = v
  | .lat v => s.pinLat = v
  | .oeN v => s.pinOeN = v
  | .addr v => s.pinAddr = v

/-- The pin groups other than that of `w` stand as before. -/
abbrev OtherPinsSame (s t : State) (w : PinWrite) : Prop :=
  match w with
  | .data _ => t.pinClk = s.pinClk ∧ t.pinLat = s.pinLat ∧ t.pinOeN = s.pinOeN ∧ t.pinAddr = s.pinAddr
  | .clk _ => t.pinData = s.pinData ∧ t.pinLat = s.pinLat ∧ t.pinOeN = s.pinOeN ∧ t.pinAddr = s.pinAddr
  | .lat _ => t.pinData = s.pinData ∧ t.pinClk = s.pinClk ∧ t.pinOeN = s.pinOeN ∧ t.pinAddr = s.pinAddr
  | .oeN _ => t.pinData = s.pinData ∧ t.pinClk = s.pinClk ∧ t.pinLat = s.pinLat ∧ t.pinAddr = s.pinAddr
  | .addr _ => t.pinData = s.pinData ∧ t.pinClk = s.pinClk ∧ t.pinLat = s.pinLat ∧ t.pinOeN = s.pinOeN

/-- `t` comes from `s` by `PinWrite(w)` as far as the pins, the observer, `status` and the outputs go
(41_row_scan.md R114, 60_exceptions.md R180). Without `io_err` the level lands; with it some level lands, PF
is set and one event carries the engine's position. Either way no other pin group changes and the panel
sees the levels that stand then (44_panel_observer.md R166). -/
def PinWritten (s t : State) (w : PinWrite) : Prop :=
  (s.ioFails = false → t.onPins w ∧ t.status = s.status ∧ t.trace = .pin w :: s.trace) ∧
  (s.ioFails = true → ∃ bits : BitVec 6,
    t.onPins (w.withBits bits) ∧ t.status = s.status ||| 0b01#2 ∧
      t.trace = .peripheralFault 0x02#8 s.phase s.row s.col :: .pin (w.withBits bits) :: s.trace) ∧
  OtherPinsSame s t w ∧
  t.panel = s.panel.observe t.pinData t.pinClk t.pinLat

/-- What no command and no micro-operation but a pin write touches: the pins and the observer. -/
abbrev PinsSame (s t : State) : Prop :=
  t.pinData = s.pinData ∧ t.pinClk = s.pinClk ∧ t.pinLat = s.pinLat ∧ t.pinOeN = s.pinOeN ∧
    t.pinAddr = s.pinAddr ∧ t.panel = s.panel

/-- `s` with the block's pins, the observer, `status`, the outputs and the count of free values of `t`:
everything a pin write may change. -/
def State.withPinsOf (s t : State) : State :=
  { s with
    pinData := t.pinData, pinClk := t.pinClk, pinLat := t.pinLat, pinOeN := t.pinOeN
    pinAddr := t.pinAddr, panel := t.panel, status := t.status, trace := t.trace, draws := t.draws }

/-- How many responses the block has given (30_encoding.md R80). -/
def State.responses (s : State) : Nat :=
  (s.trace.filter fun o => match o with | .response _ => true | _ => false).length

/-- The response words the block has given, newest first (R80). -/
def State.responseWords (s : State) : List Response :=
  s.trace.filterMap fun o => match o with | .response w => some w | _ => none

/-- How many pin writes the block has made (41_row_scan.md R132). -/
def State.pinWrites (s : State) : Nat :=
  (s.trace.filter fun o => match o with | .pin _ => true | _ => false).length

/-! ### Runs -/

/-- An infinite run: every state is the next state of the one before it. -/
def IsRun (run : Nat → State) : Prop := ∀ n, step (run n) = .next (run (n + 1))

/-- The engine has an enabled step of its own: in every phase but IDLE (41_row_scan.md R111). -/
abbrev EngineEnabled (s : State) : Prop := s.phase ≠ .idle

/-- The next turn is the engine's. -/
abbrev EngineTurn (s : State) : Prop := ∃ io, s.nextTurn.1 = .engine io

/-- Weak fairness of engine steps (00_scope.md R9, 70_reset_and_hazards.md R203): an engine that stays
enabled from some point on has a step after that point. -/
def WeaklyFair (run : Nat → State) : Prop :=
  ∀ n, (∀ m, n ≤ m → EngineEnabled (run m)) → ∃ m, n ≤ m ∧ EngineTurn (run m)

/-! ### Encodings -/

/-- Two command words agree on the opcode and on the fields that R77 lists as used for it. -/
def UsedFieldsAgree (cw cw' : CommandWord) : Prop :=
  cwOp cw = cwOp cw' ∧
    match (cwOp cw).toNat with
    | 0x01 => cwX cw = cwX cw' ∧ cwY cw = cwY cw' ∧ cwR cw = cwR cw' ∧ cwG cw = cwG cw' ∧ cwB cw = cwB cw'
    | 0x02 => cwX cw = cwX cw' ∧ cwY cw = cwY cw'
    | 0x03 => cwR cw = cwR cw' ∧ cwG cw = cwG cw' ∧ cwB cw = cwB cw'
    | 0x04 =>
      cwX cw = cwX cw' ∧ cwY cw = cwY cw' ∧ cwW cw = cwW cw' ∧ cwH cw = cwH cw' ∧ cwR cw = cwR cw' ∧
        cwG cw = cwG cw' ∧ cwB cw = cwB cw'
    | 0x05 => cwX cw = cwX cw'
    | _ => True

/-- The pixel with coordinates `(px, py)` lies in the rectangle of a FILLRECT (40_pixel_api.md R94). -/
abbrev InRect (x y w h : Int) (px py : Nat) : Prop :=
  x ≤ (px : Int) ∧ (px : Int) < x + w ∧ y ≤ (py : Int) ∧ (py : Int) < y + h

/-! ### Rows -/

/-- The packed word of column `x` of row-pair `r` of the framebuffer at brightness `br`: upper pixel in bits
2:0, lower in bits 5:3 (30_encoding.md R72, 41_row_scan.md R118). -/
def columnWord (m : Memory) (br : Byte) (r x : Nat) : Byte :=
  packWord (quantizePixel (Memory.read3 m (pixOff x r)) br)
    (quantizePixel (Memory.read3 m (pixOff x (r + 32))) br)

/-- The pin writes of the shift of columns 0 to `n - 1` when column `x` carries `W x`, in order of time
(41_row_scan.md R132). -/
def shiftTrace (W : Nat → Byte) (n : Nat) : List Output :=
  match n with
  | 0 => []
  | k + 1 =>
    shiftTrace W k ++ [.pin (.data ((W k).extractLsb' 0 6)), .pin (.clk true), .pin (.clk false)]

/-- The pin writes of row `r` in order of time (R132). -/
def rowTrace (W : Nat → Byte) (r : BitVec 5) : List Output :=
  [.pin (.oeN true)] ++ shiftTrace W 64 ++
    [.pin (.addr r), .pin (.lat true), .pin (.lat false), .pin (.oeN false)]

end Sys2Proof.Machine
end

