-- ==== Sys2Proof/Certificates/Slice0/Obligations.lean ====
section
/-! DEFINITION. The statements for the provers. -/

open Sys2Proof Sys2Proof.Machine

/-! ### Encodings -/

/-- Decoding an encoded well-formed instruction gives it back, with every operand at every value the
encoding admits (30_encoding.md R75 to R78, R82). -/
def Obligations.DecodeInvertsEncode : Prop :=
  ∀ i : Instr, i.wf = true → decode (encode i) = .ok i

/-- The other direction: the instruction a command word decodes to encodes to a word with the same opcode
and the same used fields (R77, R78). -/
def Obligations.EncodeKeepsTheUsedFields : Prop :=
  ∀ (cw : CommandWord) (i : Instr), decodeCommand cw = .ok i →
    ∃ cw', encode i = .command cw' ∧ UsedFieldsAgree cw cw'

/-- The worked command words of R85 and the sixteen phase codes of R82: each code is one micro-operation,
and no code is left over. -/
def Obligations.WorkedWordsAndPhaseCodesDecode : Prop :=
  (decodeCommand 0x010003000500000000FF8000#96 = .ok (.setpixel 3 5 255#8 128#8 0#8) ∧
  decodeCommand 0x01FFFF000000000000010203#96 = .ok (.setpixel (-1) 0 1#8 2#8 3#8) ∧
  decodeCommand 0x010040000000000000090909#96 = .ok (.setpixel 64 0 9#8 9#8 9#8) ∧
  decodeCommand 0x020003000500000000000000#96 = .ok (.getpixel 3 5) ∧
  decodeCommand 0x030000000000000000000000#96 = .ok (.clear 0#8 0#8 0#8) ∧
  decodeCommand 0x030000000000000000808080#96 = .ok (.clear 128#8 128#8 128#8) ∧
  decodeCommand 0x04003C003C000A000AC8C8C8#96 = .ok (.fillrect 60 60 10 10 200#8 200#8 200#8) ∧
  decodeCommand 0x0500FF000000000000000000#96 = .ok (.setbright 255) ∧
  decodeCommand 0x05012C000000000000000000#96 = .ok (.setbright 300) ∧
  decodeCommand 0x05FFFB000000000000000000#96 = .ok (.setbright (-5)) ∧
  decodeCommand 0x060000000000000000000000#96 = .ok .present ∧
  decodeCommand 0x070000000000000000000000#96 = .ok .start ∧
  decodeCommand 0x080000000000000000000000#96 = .ok .stop ∧
  decodeCommand 0x090000000000000000000000#96 = .ok .getstatus) ∧
  (decode (.phase 0x0#4) = .ok .idle ∧ decode (.phase 0x1#4) = .ok .rowCheck ∧
    decode (.phase 0x2#4) = .ok .blank ∧ decode (.phase 0x3#4) = .ok .latchb ∧
    decode (.phase 0x4#4) = .ok .packU ∧ decode (.phase 0x5#4) = .ok .packL ∧
    decode (.phase 0x6#4) = .ok .data ∧ decode (.phase 0x7#4) = .ok .clkHi ∧
    decode (.phase 0x8#4) = .ok .clkLo ∧ decode (.phase 0x9#4) = .ok .addr ∧
    decode (.phase 0xA#4) = .ok .latHi ∧ decode (.phase 0xB#4) = .ok .latLo ∧
    decode (.phase 0xC#4) = .ok .oeOn ∧ decode (.phase 0xD#4) = .ok .dwell ∧
    decode (.phase 0xE#4) = .ok .frameEnd ∧ decode (.phase 0xF#4) = .ok .exit) ∧
  (∀ p : Phase, phaseOfCode (phaseCode p) = p) ∧ (∀ c : BitVec 4, phaseCode (phaseOfCode c) = c)

/-- The opcodes 0x01 to 0x09 decode to well-formed instructions, every other opcode selects no command
(R76, R77, R79). -/
def Obligations.ExactlyTheNineOpcodesDecode : Prop :=
  ∀ cw : CommandWord,
    (1 ≤ (cwOp cw).toNat → (cwOp cw).toNat ≤ 9 → ∃ i, decodeCommand cw = .ok i ∧ i.wf = true) ∧
    ((cwOp cw).toNat = 0 ∨ 10 ≤ (cwOp cw).toNat →
      decodeCommand cw = .error (.illegalCommand (cwOp cw)))

/-- Fields a command does not use have no effect (R78). -/
def Obligations.UnusedFieldsHaveNoEffect : Prop :=
  ∀ cw cw' : CommandWord, UsedFieldsAgree cw cw' → decodeCommand cw = decodeCommand cw'

/-- Presenting a word with opcode 0x00 or 0x0A to 0xFF changes no state except IC, and the port gives the
error response and is ready for the next word (R79, 60_exceptions.md R184). -/
def Obligations.IllegalWordSetsIcAndIsAnsweredWithAnError : Prop :=
  ∀ (s : State) (cw : CommandWord) (rest : List Turn) (ws : List CommandWord),
    s.schedule = .host :: rest → s.hc = .idle → s.cmds = cw :: ws →
    ((cwOp cw).toNat = 0 ∨ 10 ≤ (cwOp cw).toNat) →
    step s = .next { s with
      schedule := rest, cmds := ws, status := s.status ||| 0b10#2
      trace := .response 0xF0000005#32 :: s.trace }

/-- A step runs the decoded instruction: an engine turn the micro-operation of the phase register, a host
turn at an idle port the command its word decodes to (R9, R81, R110; turns, words and the level of `io_err`
as data are the model's choices, logs 1 to 3). The last two clauses, that a code placed by `State.place` is
run by the very next step, are about the model's own choice of log 10 and formalise no rule. -/
def Obligations.StepRunsTheDecodedInstruction : Prop :=
  (∀ (s : State) (rest : List Turn) (io : Bool) (i : Instr), s.schedule = .engine io :: rest →
    decode (.phase (phaseCode s.phase)) = .ok i →
    step s = exec i { s with schedule := rest, ioErr := io }) ∧
  (∀ (s : State) (rest : List Turn) (cw : CommandWord) (ws : List CommandWord) (i : Instr),
    s.schedule = .host :: rest → s.hc = .idle → s.cmds = cw :: ws → decode (.command cw) = .ok i →
    step s = exec i { s with schedule := rest, cmds := ws }) ∧
  (∀ (s : State) (p : BitVec 4) (i : Instr), decode (.phase p) = .ok i →
    step (s.place (.phase p)) =
      exec i { s with phase := phaseOfCode p, running := decide (phaseOfCode p ≠ .idle) }) ∧
  (∀ (s : State) (cw : CommandWord) (i : Instr), decode (.command cw) = .ok i →
    step (s.place (.command cw)) = exec i { s with hc := .idle })

/-! ### Pixel commands -/

/-- SETPIXEL in bounds stores three bytes at `off(x, y)`, responds `done`, and changes nothing else
(40_pixel_api.md R91). -/
def Obligations.SetpixelStoresExactlyOnePixel : Prop :=
  ∀ (s : State) (x y : Int) (r g b : Byte), 0 ≤ x → x < 64 → 0 ≤ y → y < 64 →
    ∃ t, exec (.setpixel x y r g b) s = .next t ∧
      Memory.read t.fb (pixOff x.toNat y.toNat) = r ∧
      Memory.read t.fb (pixOff x.toNat y.toNat + 1) = g ∧
      Memory.read t.fb (pixOff x.toNat y.toNat + 2) = b ∧
      (∀ a, a < pixOff x.toNat y.toNat ∨ pixOff x.toNat y.toNat + 2 < a →
        Memory.read t.fb a = Memory.read s.fb a) ∧
      t.trace = .response 0#32 :: s.trace ∧
      { t with fb := s.fb, trace := s.trace } = s

/-- Out of bounds the access is not made, nothing is recorded, and the command completes with its normal
response: SETPIXEL, GETPIXEL, and each pixel of a FILLRECT (60_exceptions.md R182), whose progress is that of
10_state.md R38 and 40_pixel_api.md R94. That a dropped pixel takes a step of its own, and that the response shares the
last pixel's step, is the model's choice (log 12). -/
def Obligations.BoundsViolationsAreDropped : Prop :=
  ∀ (s : State) (x y : Int), ¬(0 ≤ x ∧ x < 64 ∧ 0 ≤ y ∧ y < 64) →
    (∀ r g b : Byte,
      exec (.setpixel x y r g b) s = .next { s with trace := .response 0#32 :: s.trace }) ∧
    exec (.getpixel x y) s = .next { s with trace := .response 0x10000000#32 :: s.trace } ∧
    (∀ (dx dy : Nat) (x0 y0 w h : Int) (r g b : Byte), x0 + dx = x → y0 + dy = y →
      (s.fillStep dx dy x0 y0 w h r g b).trace =
        (if (dx : Int) + 1 < w ∨ (dy : Int) + 1 < h then s.trace else .response 0#32 :: s.trace) ∧
      (s.fillStep dx dy x0 y0 w h r g b).hc =
        (if (dx : Int) + 1 < w then .filling (dx + 1) dy x0 y0 w h r g b
        else if (dy : Int) + 1 < h then .filling 0 (dy + 1) x0 y0 w h r g b else .idle) ∧
      { s.fillStep dx dy x0 y0 w h r g b with hc := s.hc, trace := s.trace } = s)

/-- GETPIXEL in bounds responds with the three stored bytes, unscaled, and changes no state
(40_pixel_api.md R92, 30_encoding.md R80). -/
def Obligations.GetpixelRespondsWithTheStoredBytes : Prop :=
  ∀ (s : State) (x y : Int), 0 ≤ x → x < 64 → 0 ≤ y → y < 64 →
    exec (.getpixel x y) s = .next { s with
      trace := .response (BitVec.ofNat 32
        (0x11000000 + (Memory.read s.fb (pixOff x.toNat y.toNat)).toNat * 65536
          + (Memory.read s.fb (pixOff x.toNat y.toNat + 1)).toNat * 256
          + (Memory.read s.fb (pixOff x.toNat y.toNat + 2)).toNat)) :: s.trace }

/-- A pixel written is read back unscaled, whatever brightness is set in between (R99 (a), (e)). -/
def Obligations.ReadAfterWriteIsUnscaled : Prop :=
  ∀ (s : State) (x y v : Int) (r g b : Byte), 0 ≤ x → x < 64 → 0 ≤ y → y < 64 →
    ∃ t u w, exec (.setpixel x y r g b) s = .next t ∧ exec (.setbright v) t = .next u ∧
      exec (.getpixel x y) u = .next w ∧
      w.trace = .response (BitVec.ofNat 32 (0x11000000 + r.toNat * 65536 + g.toNat * 256 + b.toNat)) ::
        u.trace

/-- The first step of a CLEAR writes pixel 0 and leaves 4095 to write (R93; that acceptance and the first
write are one step is the model's choice, log 12). -/
def Obligations.ClearStartsAtPixelZero : Prop :=
  ∀ (s : State) (r g b : Byte), ∃ t, exec (.clear r g b) s = .next t ∧
    Memory.read t.fb (pixOff 0 0) = r ∧ Memory.read t.fb (pixOff 0 0 + 1) = g ∧
    Memory.read t.fb (pixOff 0 0 + 2) = b ∧
    (∀ a, pixOff 0 0 + 2 < a → Memory.read t.fb a = Memory.read s.fb a) ∧
    t.hc = .clearing 1 r g b ∧ { t with fb := s.fb, hc := s.hc } = s

/-- A CLEAR under any interleaving with the engine: after `n` of its host steps the pixels below `n` in
row-major order hold the colour and the others are as they were; after 4096 it has responded, once and with
`done`, and the port is idle; it never sets IC or starts a stopped engine (R80, R90, R93). The second part is the
frame of each later host step: its pixel, `hc`, and the response with the last pixel, nothing else. That the
accepting step writes pixel 0 is the model's choice (log 12). -/
def Obligations.ClearFillsInRowMajorOrderUnderAnyInterleaving : Prop :=
  (∀ (s : State) (cw : CommandWord) (ws : List CommandWord) (ts rest : List Turn) (r g b : Byte),
    decodeCommand cw = .ok (.clear r g b) → s.hc = .idle → s.cmds = cw :: ws →
    s.schedule = ts ++ rest → .reset ∉ ts → 1 ≤ ts.count .host → ts.count .host ≤ 4096 →
    ∃ t, Host.Core.run core ts.length s = .next t ∧ t.schedule = rest ∧ t.cmds = ws ∧
      t.brightness = s.brightness ∧ t.ic = s.ic ∧ (s.running = false → t.running = false) ∧
      (∀ x y, x < 64 → y < 64 →
        t.pixRead x y = if y * 64 + x < ts.count .host then (r, g, b) else s.pixRead x y) ∧
      (ts.count .host < 4096 →
        t.hc = .clearing (Fin.ofNat 4096 (ts.count .host)) r g b ∧ t.responses = s.responses ∧
          t.responseWords = s.responseWords) ∧
      (ts.count .host = 4096 → t.hc = .idle ∧ t.responses = s.responses + 1 ∧
        t.responseWords = 0#32 :: s.responseWords)) ∧
  (∀ (s : State) (rest : List Turn) (i : Fin 4096) (r g b : Byte),
    s.schedule = .host :: rest → s.hc = .clearing i r g b → ∃ t, step s = .next t ∧
      (∀ x y, x < 64 → y < 64 →
        t.pixRead x y = if y * 64 + x = i.val then (r, g, b) else s.pixRead x y) ∧
      (i.val < 4095 → t.hc = .clearing (Fin.ofNat 4096 (i.val + 1)) r g b ∧ t.trace = s.trace) ∧
      (i.val = 4095 → t.hc = .idle ∧ t.trace = .response 0#32 :: s.trace) ∧
      { t with fb := s.fb, hc := s.hc, trace := s.trace, schedule := s.schedule } = s)

/-- The first step of a FILLRECT: an empty rectangle is answered at once with nothing written; else the
pixel `(x, y)` is written or dropped (R94; that acceptance and the first pixel are one step is the model's
choice, log 12). -/
def Obligations.FillrectStartsAtItsCorner : Prop :=
  ∀ (s : State) (x y w h : Int) (r g b : Byte),
    (w ≤ 0 ∨ h ≤ 0 →
      exec (.fillrect x y w h r g b) s = .next { s with trace := .response 0#32 :: s.trace }) ∧
    (0 < w → 0 < h → ∃ t, exec (.fillrect x y w h r g b) s = .next t ∧
      (0 ≤ x ∧ x < 64 ∧ 0 ≤ y ∧ y < 64 →
        Memory.read t.fb (pixOff x.toNat y.toNat) = r ∧
        Memory.read t.fb (pixOff x.toNat y.toNat + 1) = g ∧
        Memory.read t.fb (pixOff x.toNat y.toNat + 2) = b ∧
        (∀ a, a < pixOff x.toNat y.toNat ∨ pixOff x.toNat y.toNat + 2 < a →
          Memory.read t.fb a = Memory.read s.fb a)) ∧
      (¬(0 ≤ x ∧ x < 64 ∧ 0 ≤ y ∧ y < 64) → t.fb = s.fb) ∧
      t.hc = (if 1 < w then .filling 1 0 x y w h r g b
        else if 1 < h then .filling 0 1 x y w h r g b else .idle) ∧
      t.trace = (if w = 1 ∧ h = 1 then .response 0#32 :: s.trace else s.trace) ∧
      { t with fb := s.fb, hc := s.hc, trace := s.trace } = s)

/-- A FILLRECT under any interleaving with the engine: after its `w * h` host steps exactly the pixels of
the rectangle that lie on the panel hold the colour, it has responded once and with `done`, and the port is idle;
it never sets IC or starts a stopped engine (R80, R90, R94). The second part is the frame of each later host
step: its pixel if it is on the panel, `hc`, and the response with the last pixel, nothing else. That every pixel,
on the panel or off it, takes one step is the model's choice (log 12). -/
def Obligations.FillrectFillsTheClippedRectangleUnderAnyInterleaving : Prop :=
  (∀ (s : State) (cw : CommandWord) (ws : List CommandWord) (ts rest : List Turn) (x y w h : Int)
    (r g b : Byte),
    decodeCommand cw = .ok (.fillrect x y w h r g b) → 0 < w → 0 < h → s.hc = .idle →
    s.cmds = cw :: ws → s.schedule = ts ++ rest → .reset ∉ ts → ts.count .host = (w * h).toNat →
    ∃ t, Host.Core.run core ts.length s = .next t ∧ t.schedule = rest ∧ t.cmds = ws ∧
      t.brightness = s.brightness ∧ t.ic = s.ic ∧ (s.running = false → t.running = false) ∧
      (∀ px py, px < 64 → py < 64 →
        t.pixRead px py = if InRect x y w h px py then (r, g, b) else s.pixRead px py) ∧
      t.hc = .idle ∧ t.responses = s.responses + 1 ∧ t.responseWords = 0#32 :: s.responseWords) ∧
  (∀ (s : State) (rest : List Turn) (dx dy : Nat) (x y w h : Int) (r g b : Byte),
    s.schedule = .host :: rest → s.hc = .filling dx dy x y w h r g b → ∃ t, step s = .next t ∧
      (∀ px py : Nat, px < 64 → py < 64 →
        t.pixRead px py = if (px : Int) = x + dx ∧ (py : Int) = y + dy then (r, g, b) else s.pixRead px py) ∧
      ((dx : Int) + 1 < w → t.hc = .filling (dx + 1) dy x y w h r g b ∧ t.trace = s.trace) ∧
      (¬(dx : Int) + 1 < w → (dy : Int) + 1 < h →
        t.hc = .filling 0 (dy + 1) x y w h r g b ∧ t.trace = s.trace) ∧
      (¬(dx : Int) + 1 < w → ¬(dy : Int) + 1 < h →
        t.hc = .idle ∧ t.trace = .response 0#32 :: s.trace) ∧
      { t with fb := s.fb, hc := s.hc, trace := s.trace, schedule := s.schedule } = s)

/-- CLEAR is FILLRECT 0, 0, 64, 64 with the same write order: after every number of host steps the two
leave the same framebuffer and the same outputs (R99 (c); the steps as log 12 counts them). -/
def Obligations.ClearIsAFillrectOfTheWholePanel : Prop :=
  ∀ (s : State) (cwc cwf : CommandWord) (r g b : Byte) (n : Nat),
    decodeCommand cwc = .ok (.clear r g b) → decodeCommand cwf = .ok (.fillrect 0 0 64 64 r g b) →
    s.hc = .idle → 1 ≤ n → n ≤ 4096 →
    ∃ t u,
      Host.Core.run core n { s with cmds := [cwc], schedule := List.replicate n .host } = .next t ∧
      Host.Core.run core n { s with cmds := [cwf], schedule := List.replicate n .host } = .next u ∧
      t.fb = u.fb ∧ t.trace = u.trace

/-- SETBRIGHT clamps its operand to 0 .. 255, responds `done`, and changes nothing else (R95, R76). -/
def Obligations.SetbrightClamps : Prop :=
  ∀ (s : State) (v : Int), ∃ t, exec (.setbright v) s = .next t ∧
    (t.brightness.toNat : Int) = max 0 (min v 255) ∧ t.trace = .response 0#32 :: s.trace ∧
    { t with brightness := s.brightness, trace := s.trace } = s

/-- PRESENT does nothing but respond (R96). -/
def Obligations.PresentOnlyResponds : Prop :=
  ∀ s : State, exec .present s = .next { s with trace := .response 0#32 :: s.trace }

/-- GETSTATUS responds with the sticky flags and clears nothing (R98). -/
def Obligations.GetstatusRespondsWithTheStickyFlags : Prop :=
  ∀ s : State, exec .getstatus s = .next { s with
    trace := .response (BitVec.ofNat 32 (0x20000000 + 2 * s.ic.toNat + s.pf.toNat)) :: s.trace }

/-! ### Scheduler commands -/

/-- START while stopped (43_scheduler.md R151). -/
def Obligations.StartBeginsAtRowZero : Prop :=
  ∀ s : State, s.running = false → exec .start s = .next { s with
    running := true, stopReq := false, row := 0#5, col := 0#6, phase := .rowCheck
    trace := .response 0#32 :: s.trace }

/-- LifecycleMisuse: START while running and STOP while stopped only respond (R152, R155, R183). -/
def Obligations.LifecycleMisuseOnlyResponds : Prop :=
  ∀ s : State,
    (s.running = true → exec .start s = .next { s with trace := .response 0#32 :: s.trace }) ∧
    (s.running = false → exec .stop s = .next { s with trace := .response 0#32 :: s.trace })

/-- STOP while running sets the request and waits; its second step responds only when `running = 0` and
until then changes nothing (R153, R154 (a)). -/
def Obligations.StopWaitsForTheEngine : Prop :=
  (∀ s : State, s.running = true → exec .stop s = .next { s with stopReq := true, hc := .stopping }) ∧
  (∀ (s : State) (rest : List Turn), s.schedule = .host :: rest → s.hc = .stopping →
    (s.running = true → step s = .next { s with schedule := rest }) ∧
    (s.running = false →
      step s = .next { s with schedule := rest, hc := .idle, trace := .response 0#32 :: s.trace }))

/-- A stop request is honoured: whatever the levels of `io_err`, within `329 + DWELL_TICKS` engine steps
the engine has left the loop. R154 (c) bounds the steps to the next ROW_CHECK by `328 + DWELL_TICKS`; the bound to
the end of EXIT is the model's inference (log 21) from 41_row_scan.md R112, R130 and R133. -/
def Obligations.StopRequestIsHonouredWithinARow : Prop :=
  ∀ (s : State) (ios : List Bool) (rest : List Turn),
    SchedulerOk s → DwellOk s → s.stopReq = true → ios.length = 329 + s.cfg.dwellTicks →
    s.schedule = ios.map .engine ++ rest →
    ∃ n t, n ≤ ios.length ∧ Host.Core.run core n s = .next t ∧
      t.phase = .idle ∧ t.running = false ∧ t.stopReq = false ∧ t.hc = .stopping

/-- Exactly one response for each command: a host step that accepts a word or carries a command on gives
a response exactly when it leaves the port idle (30_encoding.md R80, R81). -/
def Obligations.ACommandRespondsExactlyWhenItEnds : Prop :=
  ∀ (s : State) (rest : List Turn), s.schedule = .host :: rest → s.hc ≠ .idle ∨ s.cmds ≠ [] →
    ∃ t, step s = .next t ∧ t.responses = s.responses + (if t.hc = .idle then 1 else 0)

/-! ### Micro-operations -/

/-- IDLE changes nothing (41_row_scan.md R111); ROW_CHECK goes to EXIT on a stop request, else to BLANK, and
changes only the phase (R112); LATCHB samples the brightness (R115). -/
def Obligations.IdleRowCheckAndLatchb : Prop :=
  ∀ s : State,
    exec .idle s = .next s ∧
    exec .rowCheck s = .next { s with phase := if s.stopReq then .exit else .blank } ∧
    exec .latchb s = .next { s with brightLat := s.brightness, col := 0#6, phase := .packU }

/-- PACK_U quantizes the upper pixel of the column into `pix_tmp` (R116, 42_quantizer.md R141). -/
def Obligations.PackUQuantizesTheUpperPixel : Prop :=
  ∀ s : State, ∃ t, exec .packU s = .next t ∧
    (∀ k : Fin 3, t.pixTmp.getLsbD k = decide (32768 ≤
      (Memory.read s.fb ((s.row.toNat * 64 + s.col.toNat) * 3 + k)).toNat * s.brightLat.toNat)) ∧
    t.phase = .packL ∧ { t with pixTmp := s.pixTmp, phase := s.phase } = s

/-- PACK_L quantizes the lower pixel, stores the packed word of the column, and goes to the next column or
to DATA (R117, 30_encoding.md R72). -/
def Obligations.PackLStoresThePackedWord : Prop :=
  ∀ s : State, ∃ t, exec .packL s = .next t ∧
    (∀ k : Fin 3, (t.rowWord s.col).getLsbD k = s.pixTmp.getLsbD k) ∧
    (∀ k : Fin 3, (t.rowWord s.col).getLsbD (3 + k) = decide (32768 ≤
      (Memory.read s.fb (((s.row.toNat + 32) * 64 + s.col.toNat) * 3 + k)).toNat * s.brightLat.toNat)) ∧
    (t.rowWord s.col).getLsbD 6 = false ∧ (t.rowWord s.col).getLsbD 7 = false ∧
    (∀ c : BitVec 6, c ≠ s.col → t.rowWord c = s.rowWord c) ∧
    (s.col = 63#6 → t.col = 0#6 ∧ t.phase = .data) ∧
    (s.col ≠ 63#6 → t.col.toNat = s.col.toNat + 1 ∧ t.phase = .packU) ∧
    { t with rowbuf := s.rowbuf, col := s.col, phase := s.phase } = s

/-- DATA, CLK_HI and CLK_LO: the pin write (R114, R180), the next phase and column, and nothing else (R120,
R121, R122). The position in the event is the one before the updates, an inference (log 17). -/
def Obligations.ShiftPhasesWriteDataAndClock : Prop :=
  ∀ s : State,
    (∃ t, exec .data s = .next t ∧ PinWritten s t (.data (s.word s.col.toNat)) ∧
      { s with phase := .clkHi }.withPinsOf t = t) ∧
    (∃ t, exec .clkHi s = .next t ∧ PinWritten s t (.clk true) ∧
      { s with phase := .clkLo }.withPinsOf t = t) ∧
    (∃ t, exec .clkLo s = .next t ∧ PinWritten s t (.clk false) ∧
      (s.col = 63#6 → { s with phase := .addr, col := 0#6 }.withPinsOf t = t) ∧
      (s.col ≠ 63#6 → t.col.toNat = s.col.toNat + 1 ∧
        { s with phase := .data, col := t.col }.withPinsOf t = t))

/-- ADDR, LAT_HI and LAT_LO: the pin write (R114, R180), the next phase, and nothing else (R123, R124,
R125). The position in the event is the one before the updates, an inference (log 17). -/
def Obligations.AddressAndLatchPhasesWriteTheirPins : Prop :=
  ∀ s : State,
    (∃ t, exec .addr s = .next t ∧ PinWritten s t (.addr s.row) ∧
      { s with phase := .latHi }.withPinsOf t = t) ∧
    (∃ t, exec .latHi s = .next t ∧ PinWritten s t (.lat true) ∧
      { s with phase := .latLo }.withPinsOf t = t) ∧
    (∃ t, exec .latLo s = .next t ∧ PinWritten s t (.lat false) ∧
      { s with phase := .oeOn }.withPinsOf t = t)

/-- BLANK, OE_ON, FRAME_END and EXIT: the pin write (R114, R180), the registers each one writes, the next
phase, and nothing else (R113, R126, R129, R130). The position in the event is the one before the updates,
an inference (log 17). -/
def Obligations.OutputEnablePhasesBlankAndLight : Prop :=
  ∀ s : State,
    (∃ t, exec .blank s = .next t ∧ PinWritten s t (.oeN true) ∧
      { s with phase := .latchb }.withPinsOf t = t) ∧
    (∃ t, exec .oeOn s = .next t ∧ PinWritten s t (.oeN false) ∧
      { s with phase := .dwell, dwellCnt := s.cfg.dwellTicks - 1 }.withPinsOf t = t) ∧
    (∃ t, exec .frameEnd s = .next t ∧ PinWritten s t (.oeN true) ∧
      { s with phase := .rowCheck, row := 0#5 }.withPinsOf t = t) ∧
    (∃ t, exec .exit s = .next t ∧ PinWritten s t (.oeN true) ∧
      { s with phase := .idle, running := false, stopReq := false }.withPinsOf t = t)

/-- DWELL counts down, and its last step ends the row (R127, R128). -/
def Obligations.DwellCountsDownAndEndsTheRow : Prop :=
  ∀ s : State,
    (∀ n, s.dwellCnt = n + 1 → exec .dwell s = .next { s with dwellCnt := n }) ∧
    (s.dwellCnt = 0 → s.row = 31#5 → exec .dwell s = .next { s with phase := .frameEnd }) ∧
    (s.dwellCnt = 0 → s.row ≠ 31#5 → ∃ t, exec .dwell s = .next t ∧
      t.row.toNat = s.row.toNat + 1 ∧ t.phase = .rowCheck ∧
      { t with row := s.row, phase := s.phase } = s)

/-- The level of `io_err` never disturbs anything but the pins, what observes them, `status`, the outputs
and the count of free values (60_exceptions.md R180, R181). -/
def Obligations.PeripheralFaultsNeverDisturbTheRegisters : Prop :=
  ∀ (i : Instr) (s : State) (io io' : Bool), ∃ t u,
    exec i { s with ioErr := io } = .next t ∧ exec i { s with ioErr := io' } = .next u ∧
    { t with ioErr := io' }.withPinsOf u = u

/-! ### Quantizer -/

/-- The three equivalent forms of the quantizer and its definition (42_quantizer.md R140, R141). -/
def Obligations.QuantizerIsTheTopBitOfTheProduct : Prop :=
  ∀ c br : Byte,
    quantize c br = decide (128 ≤ c.toNat * br.toNat / 256) ∧
    quantize c br = decide (32768 ≤ c.toNat * br.toNat) ∧
    quantize c br = (quantProd c br).getLsbD 15 ∧
    quantize c br = (quantScaled c br).getLsbD 7

/-- Monotone in both operands; the least lit channel value is `ceil(32768 / br)`, and at brightness 128 or
less nothing is lit (R142, R143 (a)). -/
def Obligations.QuantizerIsMonotoneWithThreshold : Prop :=
  (∀ c c' br br' : Byte, c.toNat ≤ c'.toNat → br.toNat ≤ br'.toNat → quantize c br = true →
    quantize c' br' = true) ∧
  (∀ c br : Byte, 129 ≤ br.toNat →
    (quantize c br = true ↔ (32768 + br.toNat - 1) / br.toNat ≤ c.toNat)) ∧
  (∀ c br : Byte, br.toNat ≤ 128 → quantize c br = false)

/-- The round trip of a 6-bit word through `Qinv` and the quantizer holds for every brightness from 129
no lit bit survives below it, and a dark bit always does (R146). -/
def Obligations.QuantizerRoundTripFrom129 : Prop :=
  ∀ (br : Byte) (W : BitVec 6),
    (129 ≤ br.toNat →
      packWord
        (quantizePixel (quantizeInv (W.getLsbD 0), quantizeInv (W.getLsbD 1), quantizeInv (W.getLsbD 2)) br)
        (quantizePixel (quantizeInv (W.getLsbD 3), quantizeInv (W.getLsbD 4), quantizeInv (W.getLsbD 5)) br)
        = 0#2 ++ W) ∧
    (br.toNat ≤ 128 → quantize (quantizeInv true) br = false) ∧
    quantize (quantizeInv false) br = false

/-! ### Invariants: every step from every state that meets them -/

/-- The framebuffer stays inside its 12288 bytes (20_memory.md R50, R55) and keeps its canonical form, rising
offsets and no zero byte, which is the model's choice (log 24). -/
def Obligations.EveryStepKeepsMemoryCanonical : Prop :=
  ∀ s t : State, MemoryOk s → step s = .next t → MemoryOk t

/-- `running = 0` exactly in IDLE, a stop request only while running and while a STOP waits (10_state.md
R23, R24, 43_scheduler.md R152). -/
def Obligations.EveryStepKeepsTheSchedulerFlagsConsistent : Prop :=
  ∀ s t : State, SchedulerOk s → step s = .next t → SchedulerOk t

/-- Bits 7 and 6 of the row buffer stay 0 (10_state.md R29). -/
def Obligations.EveryStepKeepsRowbufTopBitsZero : Prop :=
  ∀ s t : State, RowbufOk s → step s = .next t → RowbufOk t

/-- The dwell counter stays below DWELL_TICKS, and a FILLRECT in progress stays inside its rectangle
(10_state.md R32, R38). -/
def Obligations.EveryStepKeepsTheCountersInRange : Prop :=
  ∀ s t : State, step s = .next t → (DwellOk s → DwellOk t) ∧ (PortOk s → PortOk t)

/-- The observer's previous levels stay the pins' levels (44_panel_observer.md R165). -/
def Obligations.EveryStepKeepsThePanelInStep : Prop :=
  ∀ s t : State, PanelOk s → step s = .next t → PanelOk t

/-- Pins, panel and row buffer stay in step with the phase as long as no PeripheralFault has occurred
(41_row_scan.md R131, 44_panel_observer.md R170). -/
def Obligations.EveryStepKeepsTheDisplayInStep : Prop :=
  ∀ s t : State, SchedulerOk s → PanelOk s → DisplayOk s → step s = .next t → DisplayOk t

/-- The reset state meets every invariant and its configuration is a valid one (10_state.md R42, 60_exceptions.md
R177). The row buffer and the panel's previous levels there are the model's choices (log 8, log 14). -/
def Obligations.ResetMeetsTheInvariants : Prop :=
  MemoryOk State.reset ∧ SchedulerOk State.reset ∧ RowbufOk State.reset ∧ DwellOk State.reset ∧
    PortOk State.reset ∧ PanelOk State.reset ∧ DisplayOk State.reset ∧ State.reset.cfg.valid = true

/-- What reset leaves (10_state.md R42, 70_reset_and_hazards.md R196), where the spec gives a value. -/
def Obligations.ResetValues : Prop :=
  (∀ a, Memory.read State.reset.fb a = 0#8) ∧
  State.reset.brightness = State.reset.cfg.brightnessInit ∧ State.reset.running = false ∧
  State.reset.stopReq = false ∧ State.reset.status = 0#2 ∧ State.reset.phase = .idle ∧
  State.reset.row = 0#5 ∧ State.reset.col = 0#6 ∧ State.reset.dwellCnt = 0 ∧
  State.reset.pinData = 0#6 ∧ State.reset.pinClk = false ∧ State.reset.pinLat = false ∧
  State.reset.pinOeN = true ∧ State.reset.pinAddr = 0#5 ∧ State.reset.hc = .idle

/-- The reset move, from any state: the values of R42, the command in progress dropped without a response,
no pin write, the panel's registers and the configuration kept (70_reset_and_hazards.md R195, R197). That the
words and the turns to come and the outputs so far are kept is the model's inference (log 19). -/
def Obligations.ResetMoveBlanksAndClears : Prop :=
  ∀ (s : State) (rest : List Turn), s.schedule = .reset :: rest → ∃ t, step s = .next t ∧
    (∀ a, Memory.read t.fb a = 0#8) ∧ t.brightness = s.cfg.brightnessInit ∧ t.running = false ∧
    t.stopReq = false ∧ t.status = 0#2 ∧ t.phase = .idle ∧ t.row = 0#5 ∧ t.col = 0#6 ∧
    t.dwellCnt = 0 ∧ t.pinData = 0#6 ∧ t.pinClk = false ∧ t.pinLat = false ∧ t.pinOeN = true ∧
    t.pinAddr = 0#5 ∧ t.hc = .idle ∧ t.trace = s.trace ∧ t.cfg = s.cfg ∧
    t.panel.sr = s.panel.sr ∧ t.panel.outreg = s.panel.outreg ∧ t.schedule = rest ∧ t.cmds = s.cmds

/-- Construction yields the reset state exactly on the configurations that pass the three tests, else
ConfigurationError (60_exceptions.md R177, R178). -/
def Obligations.ConstructionAcceptsExactlyTheValidConfigurations : Prop :=
  ∀ c : Configuration,
    ((c.width = 64 ∧ c.height = 64 ∧ 1 ≤ c.dwellTicks ∧
        ∀ i j : Fin 14, c.pins[i] ≠ none ∧ (c.pins[i] = c.pins[j] → i = j)) →
      construct c = .next (State.resetOf c Panel.initial)) ∧
    (¬(c.width = 64 ∧ c.height = 64 ∧ 1 ≤ c.dwellTicks ∧
        ∀ i j : Fin 14, c.pins[i] ≠ none ∧ (c.pins[i] = c.pins[j] → i = j)) →
      construct c = .fault .configurationError)

/-! ### Rules about the whole machine -/

/-- No step stops the machine: no fault ends a run and the configuration is never changed (60_exceptions.md
R178, R187). That every state has a next state, the unreachable ones and those whose agent has no enabled
step among them, is the model's choice (logs 1, 11 and 20). -/
def Obligations.EveryStepGoesOnAndKeepsTheConfiguration : Prop :=
  ∀ s : State, ∃ t, step s = .next t ∧ t.cfg = s.cfg

/-- A sticky flag is cleared by reset alone (10_state.md R25). -/
def Obligations.StatusFlagsAreSticky : Prop :=
  ∀ s t : State, step s = .next t → s.nextTurn.1 ≠ .reset →
    (s.pf = true → t.pf = true) ∧ (s.ic = true → t.ic = true)

/-- No host step touches a pin or the engine's own registers; only the host step that accepts a START, with
the engine stopped, moves its position, to `(ROW_CHECK, 0, 0)` (60_exceptions.md R188, 40_pixel_api.md R90). -/
def Obligations.HostStepsTouchNoPinAndNoRowScanState : Prop :=
  ∀ (s t : State) (rest : List Turn), s.schedule = .host :: rest → step s = .next t →
    PinsSame s t ∧ t.rowbuf = s.rowbuf ∧ t.pixTmp = s.pixTmp ∧ t.brightLat = s.brightLat ∧
    t.dwellCnt = s.dwellCnt ∧ t.pf = s.pf ∧
    ((t.phase = s.phase ∧ t.row = s.row ∧ t.col = s.col ∧ t.running = s.running) ∨
      (s.hc = .idle ∧ (∃ cw, s.nextWord.1 = some cw ∧ decodeCommand cw = .ok .start) ∧
        s.running = false ∧ t.running = true ∧ t.phase = .rowCheck ∧ t.row = 0#5 ∧ t.col = 0#6))

/-- No engine step touches the framebuffer, the brightness, IC or the host port; only EXIT clears
`running` and `stop_req` (60_exceptions.md R188, 10_state.md R21). -/
def Obligations.EngineStepsTouchNoHostState : Prop :=
  ∀ (s t : State) (io : Bool) (rest : List Turn), s.schedule = .engine io :: rest → step s = .next t →
    t.fb = s.fb ∧ t.brightness = s.brightness ∧ t.ic = s.ic ∧ t.hc = s.hc ∧ t.cmds = s.cmds ∧
    t.responses = s.responses ∧
    (s.phase ≠ .exit → t.running = s.running ∧ t.stopReq = s.stopReq) ∧
    (s.phase = .exit → t.running = false ∧ t.stopReq = false)

/-- The engine reads `stop_req` only in ROW_CHECK: in any other phase flipping it changes nothing else
(10_state.md R24, 43_scheduler.md R158). -/
def Obligations.StopReqIsReadOnlyAtRowCheck : Prop :=
  ∀ (s : State) (io v : Bool), s.phase ≠ .rowCheck → ∃ t u,
    engineStep io s = .next t ∧ engineStep io { s with stopReq := v } = .next u ∧
    { t with stopReq := u.stopReq } = u

/-- The engine reads `brightness` only in LATCHB (10_state.md R22, 20_memory.md R61). -/
def Obligations.BrightnessIsReadOnlyAtLatchb : Prop :=
  ∀ (s : State) (io : Bool) (v : Byte), s.phase ≠ .latchb → ∃ t u,
    engineStep io s = .next t ∧ engineStep io { s with brightness := v } = .next u ∧
    { t with brightness := v } = u

/-- Tearing inside a column: a host write to the lower pixel that lands between the engine's two reads of
the column is seen, one to the upper pixel is not (20_memory.md R56, R59, R61). -/
def Obligations.AWriteBetweenTheTwoReadsOfAColumn : Prop :=
  ∀ (s : State) (rest : List Turn) (cw : CommandWord) (ws : List CommandWord) (r g b : Byte),
    s.phase = .packU → s.hc = .idle → s.cmds = cw :: ws →
    s.schedule = .engine false :: .host :: .engine false :: rest →
    (decodeCommand cw = .ok (.setpixel s.col.toNat (s.row.toNat + 32) r g b) →
      ∃ t, Host.Core.run core 3 s = .next t ∧
        t.rowWord s.col = packWord (quantizePixel (s.pixRead s.col.toNat s.row.toNat) s.brightLat)
          (quantizePixel (r, g, b) s.brightLat)) ∧
    (decodeCommand cw = .ok (.setpixel s.col.toNat s.row.toNat r g b) →
      ∃ t, Host.Core.run core 3 s = .next t ∧
        t.pixRead s.col.toNat s.row.toNat = (r, g, b) ∧
        t.rowWord s.col = packWord (quantizePixel (s.pixRead s.col.toNat s.row.toNat) s.brightLat)
          (quantizePixel (s.pixRead s.col.toNat (s.row.toNat + 32)) s.brightLat))

/-! ### The panel -/

/-- A rise of CLK shifts `DATA` in, a rise of LAT copies the chain to the output registers, and nothing
else moves them (44_panel_observer.md R167, R168). -/
def Obligations.PanelMovesOnRisingEdgesOnly : Prop :=
  ∀ (p : Panel) (d : BitVec 6) (clk lat : Bool),
    (p.prevClk = false ∧ clk = true → (p.observe d clk lat).sr[0] = d ∧
      ∀ k, (h : k + 1 < 64) → (p.observe d clk lat).sr[k + 1] = p.sr[k]) ∧
    (¬(p.prevClk = false ∧ clk = true) → (p.observe d clk lat).sr = p.sr) ∧
    (p.prevLat = false ∧ lat = true → (p.observe d clk lat).outreg = p.sr) ∧
    (¬(p.prevLat = false ∧ lat = true) → (p.observe d clk lat).outreg = p.outreg)

/-- Blank before change: without PeripheralFault, an engine step that finds the panel lit changes neither
`DATA`, `CLK`, `LAT` nor `ADDR` (41_row_scan.md R131). -/
def Obligations.LitPinsDoNotChange : Prop :=
  ∀ (s t : State) (io : Bool), DisplayOk s → engineStep io s = .next t → t.pf = false →
    s.pinOeN = false →
    t.pinData = s.pinData ∧ t.pinClk = s.pinClk ∧ t.pinLat = s.pinLat ∧ t.pinAddr = s.pinAddr

/-- What is lit without PeripheralFault: exactly the addressed row-pair, showing the row buffer, and whenever
the panel is lit that is the row-pair being shown (44_panel_observer.md R169, R170, 10_state.md R40). In DWELL and
FRAME_END it is row-pair `row`; in ROW_CHECK, BLANK and EXIT "the row just shown", the one before `row`
(41_row_scan.md R112, R128; how the literal words of R40 and R170 are read: log 15). -/
def Obligations.LitLedsShowTheRowBuffer : Prop :=
  ∀ s : State, DisplayOk s → s.pf = false →
    (s.pinOeN = false → ∀ x y, x < 64 → y < 64 →
      s.led x y = if y = s.pinAddr.toNat then (s.word x).extractLsb' 0 3
        else if y = s.pinAddr.toNat + 32 then (s.word x).extractLsb' 3 3 else 0#3) ∧
    (s.pinOeN = true → ∀ x y, s.led x y = 0#3) ∧
    (s.phase = .dwell ∨ s.phase = .frameEnd → s.pinOeN = false ∧ s.pinAddr = s.row) ∧
    (s.phase = .rowCheck ∨ s.phase = .blank ∨ s.phase = .exit → s.pinOeN = false →
      s.pinAddr + 1#5 = s.row) ∧
    (s.pinOeN = false → s.pinAddr = s.rowShown ∧
      ∀ x, x < 64 → s.led x s.rowShown.toNat = (s.word x).extractLsb' 0 3 ∧
        s.led x (s.rowShown.toNat + 32) = (s.word x).extractLsb' 3 3)

/-! ### Rows and frames -/

/-- One row without fault or host step: after 327 engine steps from ROW_CHECK the row buffer and the panel's
output registers hold the quantized rows `row` and `row + 32`, the pin writes were exactly those of R132,
and the row is lit (41_row_scan.md R118, R132, R133). -/
def Obligations.OneRowIsPackedShiftedLatchedAndLit : Prop :=
  ∀ (s : State) (rest : List Turn),
    s.phase = .rowCheck → s.stopReq = false → PanelOk s → s.pinClk = false → s.pinLat = false →
    s.schedule = List.replicate 327 (.engine false) ++ rest →
    ∃ t, Host.Core.run core 327 s = .next t ∧
      t.phase = .dwell ∧ t.dwellCnt = s.cfg.dwellTicks - 1 ∧ t.row = s.row ∧ t.col = 0#6 ∧
      t.pinOeN = false ∧ t.pinAddr = s.row ∧ t.pinClk = false ∧ t.pinLat = false ∧ PanelOk t ∧
      (∀ c : BitVec 6, t.rowWord c = columnWord s.fb s.brightness s.row.toNat c.toNat) ∧
      Latched t ∧
      t.trace = (rowTrace (columnWord s.fb s.brightness s.row.toNat) s.row).reverse ++ s.trace ∧
      t.fb = s.fb ∧ t.brightness = s.brightness ∧ t.status = s.status ∧ t.running = s.running ∧
      t.stopReq = false ∧ t.cfg = s.cfg ∧ t.schedule = rest

/-- The dwell of a row: `dwell_cnt + 1` engine steps without a pin write, then the next row's ROW_CHECK, or
FRAME_END after row 31; and with the count OE_ON loads these are DWELL_TICKS steps (R126, R127, R128, R133). -/
def Obligations.TheDwellLastsDwellTicksSteps : Prop :=
  ∀ (s : State) (rest : List Turn) (ios : List Bool),
    s.phase = .dwell → ios.length = s.dwellCnt + 1 → s.schedule = ios.map .engine ++ rest →
    ∃ t, Host.Core.run core (s.dwellCnt + 1) s = .next t ∧
      (s.row = 31#5 → t.phase = .frameEnd ∧ t.row = 31#5) ∧
      (s.row ≠ 31#5 → t.phase = .rowCheck ∧ t.row.toNat = s.row.toNat + 1) ∧
      PinsSame s t ∧ t.trace = s.trace ∧ t.schedule = rest ∧ t.fb = s.fb ∧
      (1 ≤ s.cfg.dwellTicks → s.dwellCnt = s.cfg.dwellTicks - 1 →
        Host.Core.run core s.cfg.dwellTicks s = .next t)

/-- One frame without fault or host step takes `32 * (327 + DWELL_TICKS) + 1` engine steps and 6305 pin
writes and ends blank at the ROW_CHECK of row 0 (R132, R133). -/
def Obligations.OneFrameTakesItsStepsAndPinWrites : Prop :=
  ∀ (s : State) (rest : List Turn),
    s.phase = .rowCheck → s.row = 0#5 → s.stopReq = false → PanelOk s → s.pinClk = false →
    s.pinLat = false → 1 ≤ s.cfg.dwellTicks →
    s.schedule = List.replicate (32 * (327 + s.cfg.dwellTicks) + 1) (.engine false) ++ rest →
    ∃ t, Host.Core.run core (32 * (327 + s.cfg.dwellTicks) + 1) s = .next t ∧
      t.phase = .rowCheck ∧ t.row = 0#5 ∧ t.pinOeN = true ∧ t.pinWrites = s.pinWrites + 6305 ∧
      t.fb = s.fb ∧ t.status = s.status ∧ t.schedule = rest

/-- The displayed frame: in a frame without fault or host step, when row-pair `r` is lit the panel shows
exactly the quantized framebuffer rows `r` and `r + 32`, all else dark (44_panel_observer.md R171). -/
def Obligations.TheFrameShowsTheQuantizedFramebuffer : Prop :=
  ∀ (s : State) (rest : List Turn) (r : Nat),
    s.phase = .rowCheck → s.row = 0#5 → s.stopReq = false → PanelOk s → s.pinClk = false →
    s.pinLat = false → 1 ≤ s.cfg.dwellTicks → r < 32 →
    s.schedule = List.replicate (r * (327 + s.cfg.dwellTicks) + 327) (.engine false) ++ rest →
    ∃ t, Host.Core.run core (r * (327 + s.cfg.dwellTicks) + 327) s = .next t ∧ t.pinOeN = false ∧
      ∀ x y, x < 64 → y < 64 →
        t.led x y =
          if y = r ∨ y = r + 32 then quantizePixel (s.pixRead x y) s.brightness else 0#3

/-! ### Fairness -/

/-- Weak fairness and what it gives, in every infinite run, whatever its start, turns, words and resets. The
engine is never starved while it is enabled (00_scope.md R9). A pending stop request is honoured, and
unless a reset came the STOP then waits for nothing but its next host step (43_scheduler.md R154 (c)). A
running engine does not leave a row lit for ever unless a write of OE_n fails: BLANK, FRAME_END or EXIT with
`io_err` (70_reset_and_hazards.md R203, 60_exceptions.md R181).
That the machine draws its own fair turns is the model's choice (log 1). -/
def Obligations.EveryRunIsWeaklyFairToTheEngine : Prop :=
  ∀ run : Nat → State, IsRun run →
    WeaklyFair run ∧
    (∀ n, SchedulerOk (run n) → DwellOk (run n) → (run n).stopReq = true →
      ∃ m, n ≤ m ∧ (run m).running = false ∧
        ((run m).hc = .stopping ∨ ∃ j, n ≤ j ∧ j < m ∧ (run j).nextTurn.1 = .reset)) ∧
    (∀ n, SchedulerOk (run n) → DwellOk (run n) → (run n).running = true →
      ∃ m, n ≤ m ∧ ((run m).pinOeN = true ∨
        ((run m).cfg.hasIoErr = true ∧ (run m).nextTurn.1 = .engine true ∧
          ((run m).phase = .blank ∨ (run m).phase = .frameEnd ∨ (run m).phase = .exit))))
end

