-- ==== Sys2Proof/Laws/Decode.lean ====
section
/-! SUPPORT. The fields of a packed command word. -/

namespace Sys2Proof

/-- A field that lies in the low part of an append. -/
theorem extract_append_low {m n : Nat} (a : BitVec m) (b : BitVec n) (k l : Nat) (h : k + l ≤ n) :
    (a ++ b).extractLsb' k l = b.extractLsb' k l := by
  ext i hi
  simp only [BitVec.getElem_extractLsb', BitVec.getLsbD_append]
  rw [if_pos (by omega)]

/-- A field that lies in the high part of an append. -/
theorem extract_append_high {m n : Nat} (a : BitVec m) (b : BitVec n) (k l : Nat) (h : n ≤ k) :
    (a ++ b).extractLsb' k l = a.extractLsb' (k - n) l := by
  ext i hi
  simp only [BitVec.getElem_extractLsb', BitVec.getLsbD_append]
  rw [if_neg (by omega)]
  congr 1; omega

/-- A field that is the whole of the low part. -/
theorem extract_append_all {m n : Nat} (a : BitVec m) (b : BitVec n) :
    (a ++ b).extractLsb' 0 n = b := by
  rw [extract_append_low _ _ _ _ (by omega)]; simp

variable (op : BitVec 8) (x y w h : Int) (r g b : Byte)

@[simp] theorem cwOp_packCommand : cwOp (packCommand op x y w h r g b) = op := by
  unfold cwOp packCommand
  iterate 7 rw [extract_append_high _ _ _ _ (by omega)]
  simp

@[simp] theorem cwX_packCommand : cwX (packCommand op x y w h r g b) = (BitVec.ofInt 16 x).toInt := by
  unfold cwX packCommand
  iterate 6 rw [extract_append_high _ _ _ _ (by omega)]
  exact congrArg _ (extract_append_all _ _)

@[simp] theorem cwY_packCommand : cwY (packCommand op x y w h r g b) = (BitVec.ofInt 16 y).toInt := by
  unfold cwY packCommand
  iterate 5 rw [extract_append_high _ _ _ _ (by omega)]
  exact congrArg _ (extract_append_all _ _)

@[simp] theorem cwW_packCommand : cwW (packCommand op x y w h r g b) = (BitVec.ofInt 16 w).toInt := by
  unfold cwW packCommand
  iterate 4 rw [extract_append_high _ _ _ _ (by omega)]
  exact congrArg _ (extract_append_all _ _)

@[simp] theorem cwH_packCommand : cwH (packCommand op x y w h r g b) = (BitVec.ofInt 16 h).toInt := by
  unfold cwH packCommand
  iterate 3 rw [extract_append_high _ _ _ _ (by omega)]
  exact congrArg _ (extract_append_all _ _)

@[simp] theorem cwR_packCommand : cwR (packCommand op x y w h r g b) = r := by
  unfold cwR packCommand
  iterate 2 rw [extract_append_high _ _ _ _ (by omega)]
  exact extract_append_all _ _

@[simp] theorem cwG_packCommand : cwG (packCommand op x y w h r g b) = g := by
  unfold cwG packCommand
  rw [extract_append_high _ _ _ _ (by omega)]
  exact extract_append_all _ _

@[simp] theorem cwB_packCommand : cwB (packCommand op x y w h r g b) = b := by
  unfold cwB packCommand
  exact extract_append_all _ _

/-- A number that fits the field is read back from it (30_encoding.md R76). -/
theorem toInt_ofInt_of_fits {v : Int} (hv : fitsSext16 v = true) : (BitVec.ofInt 16 v).toInt = v := by
  simp only [fitsSext16, Bool.and_eq_true, decide_eq_true_eq] at hv
  rw [BitVec.toInt_ofInt]
  exact Int.bmod_eq_of_le (by omega) (by omega)

end Sys2Proof
end

