-- ==== Sys2Proof/Laws/Memory.lean ====
section
/-! SUPPORT. The laws of the framebuffer: a read after a write, other bytes left alone, the canonical form
kept. -/

namespace Sys2Proof.Machine

open Sys2Proof

theorem Memory.read_erase_same (m : Memory) (a : Nat) : Memory.read (Memory.erase m a) a = 0#8 := by
  induction m with
  | nil => rfl
  | cons c rest ih => by_cases h : c.1 = a <;> simp [Memory.erase, Memory.read, h, ih]

theorem Memory.read_erase_other (m : Memory) {a c : Nat} (h : c ≠ a) :
    Memory.read (Memory.erase m a) c = Memory.read m c := by
  induction m with
  | nil => rfl
  | cons d rest ih =>
    by_cases hd : d.1 = a
    · have : d.1 ≠ c := fun e => h (e.symm.trans hd)
      rw [Memory.erase, if_pos hd, ih, Memory.read, if_neg this]
    · rw [Memory.erase, if_neg hd, Memory.read, Memory.read, ih]

theorem Memory.read_insert_other (m : Memory) {a c : Nat} (v : Byte) (h : c ≠ a) :
    Memory.read (Memory.insert m a v) c = Memory.read m c := by
  induction m with
  | nil => simp [Memory.insert, Memory.read, h.symm]
  | cons d rest ih =>
    by_cases hd : a < d.1
    · rw [Memory.insert, if_pos hd, Memory.read, if_neg h.symm]
    · rw [Memory.insert, if_neg hd, Memory.read, Memory.read, ih]

theorem Memory.read_insert_same (m : Memory) (a : Nat) (v : Byte) (h : ∀ c ∈ m, c.1 ≠ a) :
    Memory.read (Memory.insert m a v) a = v := by
  induction m with
  | nil => simp [Memory.insert, Memory.read]
  | cons d rest ih =>
    by_cases hd : a < d.1
    · simp [Memory.insert, Memory.read, hd]
    · have hne : d.1 ≠ a := h d (by simp)
      have := ih fun c hc => h c (by simp [hc])
      simp [Memory.insert, Memory.read, hd, hne, this]

theorem Memory.mem_erase {m : Memory} {a : Nat} {c : Host.Cell} (h : c ∈ Memory.erase m a) :
    c ∈ m ∧ c.1 ≠ a := by
  induction m with
  | nil => simp [Memory.erase] at h
  | cons d rest ih =>
    by_cases hd : d.1 = a
    · rw [Memory.erase, if_pos hd] at h
      exact ⟨by simp [(ih h).1], (ih h).2⟩
    · rw [Memory.erase, if_neg hd, List.mem_cons] at h
      rcases h with rfl | h
      · exact ⟨by simp, hd⟩
      · exact ⟨by simp [(ih h).1], (ih h).2⟩

theorem Memory.mem_insert {m : Memory} {a : Nat} {v : Byte} {c : Host.Cell}
    (h : c ∈ Memory.insert m a v) : c = (a, v) ∨ c ∈ m := by
  induction m with
  | nil => simpa [Memory.insert] using h
  | cons d rest ih =>
    by_cases hd : a < d.1
    · rw [Memory.insert, if_pos hd, List.mem_cons] at h; exact h
    · rw [Memory.insert, if_neg hd, List.mem_cons] at h
      rcases h with rfl | h
      · exact .inr (by simp)
      · exact (ih h).imp id fun hc => by simp [hc]

/-- A read of the byte just written gives the value written. -/
@[simp] theorem Memory.read_write_same (m : Memory) (a : Nat) (v : Byte) :
    Memory.read (Memory.write m a v) a = v := by
  unfold Memory.write
  split
  · next h => rw [Memory.read_erase_same, h]
  · exact Memory.read_insert_same _ _ _ fun c hc => (Memory.mem_erase hc).2

/-- A write leaves every other byte as it was. -/
theorem Memory.read_write_other (m : Memory) {a c : Nat} (v : Byte) (h : c ≠ a) :
    Memory.read (Memory.write m a v) c = Memory.read m c := by
  unfold Memory.write
  split
  · exact Memory.read_erase_other m h
  · rw [Memory.read_insert_other _ _ h, Memory.read_erase_other m h]

theorem Memory.read_write (m : Memory) (a c : Nat) (v : Byte) :
    Memory.read (Memory.write m a v) c = if c = a then v else Memory.read m c := by
  split
  · next h => rw [h, Memory.read_write_same]
  · next h => exact Memory.read_write_other m v h

/-- The byte read after a pixel write: the three bytes of the pixel, every other byte as it was. -/
theorem Memory.read_write3 (m : Memory) (a c : Nat) (r g b : Byte) :
    Memory.read (Memory.write3 m a r g b) c =
      if c = a then r else if c = a + 1 then g else if c = a + 2 then b else Memory.read m c := by
  simp only [Memory.write3, Memory.read_write]
  split_ifs <;> first | rfl | omega

/-- A pixel read after a pixel write at the same offset. -/
@[simp] theorem Memory.read3_write3_same (m : Memory) (a : Nat) (r g b : Byte) :
    Memory.read3 (Memory.write3 m a r g b) a = (r, g, b) := by
  simp [Memory.read3, Memory.read_write3]

/-- A pixel read after a pixel write at another pixel's offset. -/
theorem Memory.read3_write3_other (m : Memory) {a c : Nat} (r g b : Byte)
    (h : c + 2 < a ∨ a + 2 < c) : Memory.read3 (Memory.write3 m a r g b) c = Memory.read3 m c := by
  simp only [Memory.read3, Memory.read_write3]
  congr 1
  · split_ifs <;> first | rfl | omega
  · congr 1 <;> split_ifs <;> first | rfl | omega

theorem Memory.wf_erase {m : Memory} (a : Nat) (h : Memory.wf m = true) :
    Memory.wf (Memory.erase m a) = true := by
  induction m with
  | nil => rfl
  | cons d rest ih =>
    simp only [Memory.wf, Bool.and_eq_true, List.all_eq_true, decide_eq_true_eq] at h
    obtain ⟨⟨⟨h1, h2⟩, h3⟩, h4⟩ := h
    by_cases hd : d.1 = a
    · rw [Memory.erase, if_pos hd]; exact ih h4
    · rw [Memory.erase, if_neg hd]
      simp only [Memory.wf, Bool.and_eq_true, List.all_eq_true, decide_eq_true_eq]
      exact ⟨⟨⟨h1, h2⟩, fun c hc => h3 c (Memory.mem_erase hc).1⟩, ih h4⟩

theorem Memory.wf_insert {m : Memory} {a : Nat} {v : Byte} (h : Memory.wf m = true)
    (hm : ∀ c ∈ m, c.1 ≠ a) (ha : a < 12288) (hv : v ≠ 0#8) :
    Memory.wf (Memory.insert m a v) = true := by
  induction m with
  | nil => simp [Memory.insert, Memory.wf, ha, hv]
  | cons d rest ih =>
    simp only [Memory.wf, Bool.and_eq_true, List.all_eq_true, decide_eq_true_eq] at h
    obtain ⟨⟨⟨h1, h2⟩, h3⟩, h4⟩ := h
    by_cases hd : a < d.1
    · rw [Memory.insert, if_pos hd]
      simp only [Memory.wf, Bool.and_eq_true, List.all_eq_true, decide_eq_true_eq, List.mem_cons]
      refine ⟨⟨⟨ha, hv⟩, ?_⟩, ⟨⟨h1, h2⟩, h3⟩, h4⟩
      rintro c (rfl | hc)
      · exact hd
      · exact hd.trans (h3 c hc)
    · have hne : d.1 ≠ a := hm d (by simp)
      rw [Memory.insert, if_neg hd]
      simp only [Memory.wf, Bool.and_eq_true, List.all_eq_true, decide_eq_true_eq]
      refine ⟨⟨⟨h1, h2⟩, fun c hc => ?_⟩, ih h4 fun c hc => hm c (by simp [hc])⟩
      rcases Memory.mem_insert hc with rfl | hc
      · simp only; omega
      · exact h3 c hc

/-- Every write inside the framebuffer keeps the canonical form. -/
theorem Memory.wf_write {m : Memory} {a : Nat} (v : Byte) (h : Memory.wf m = true)
    (ha : a < 12288) : Memory.wf (Memory.write m a v) = true := by
  unfold Memory.write
  split
  · exact Memory.wf_erase a h
  · next hv => exact Memory.wf_insert (Memory.wf_erase a h) (fun c hc => (Memory.mem_erase hc).2) ha hv

/-- A pixel write inside the framebuffer keeps the canonical form. -/
theorem Memory.wf_write3 {m : Memory} {a : Nat} (r g b : Byte) (h : Memory.wf m = true)
    (ha : a + 2 < 12288) : Memory.wf (Memory.write3 m a r g b) = true :=
  Memory.wf_write b (Memory.wf_write g (Memory.wf_write r h (by omega)) (by omega)) ha

/-- The reset memory has the canonical form. -/
theorem Memory.wf_nil : Memory.wf [] = true := rfl

/-- The three bytes of an in-range pixel lie inside the framebuffer (R55). -/
theorem pixOff_lt {x y : Nat} (hx : x < 64) (hy : y < 64) : pixOff x y + 2 < 12288 := by
  unfold pixOff; omega

/-- Two different pixels share no byte (R51, R52). -/
theorem pixOff_apart {x y x' y' : Nat} (hx : x < 64) (hx' : x' < 64) (h : ¬(x = x' ∧ y = y')) :
    pixOff x y + 2 < pixOff x' y' ∨ pixOff x' y' + 2 < pixOff x y := by
  unfold pixOff; omega

end Sys2Proof.Machine
end

