-- ==== Sys2Proof/Laws/State.lean ====
section
/-! SUPPORT. What each named update leaves of each field of the state, one lemma a field. -/

namespace Sys2Proof.Machine

open Sys2Proof

/-! ### `State.emit` -/
@[simp] theorem State.emit_cfg (s : State) (o : Output) : (s.emit o).cfg = s.cfg := rfl
@[simp] theorem State.emit_fb (s : State) (o : Output) : (s.emit o).fb = s.fb := rfl
@[simp] theorem State.emit_brightness (s : State) (o : Output) : (s.emit o).brightness = s.brightness := rfl
@[simp] theorem State.emit_running (s : State) (o : Output) : (s.emit o).running = s.running := rfl
@[simp] theorem State.emit_stopReq (s : State) (o : Output) : (s.emit o).stopReq = s.stopReq := rfl
@[simp] theorem State.emit_status (s : State) (o : Output) : (s.emit o).status = s.status := rfl
@[simp] theorem State.emit_phase (s : State) (o : Output) : (s.emit o).phase = s.phase := rfl
@[simp] theorem State.emit_row (s : State) (o : Output) : (s.emit o).row = s.row := rfl
@[simp] theorem State.emit_col (s : State) (o : Output) : (s.emit o).col = s.col := rfl
@[simp] theorem State.emit_rowbuf (s : State) (o : Output) : (s.emit o).rowbuf = s.rowbuf := rfl
@[simp] theorem State.emit_pixTmp (s : State) (o : Output) : (s.emit o).pixTmp = s.pixTmp := rfl
@[simp] theorem State.emit_brightLat (s : State) (o : Output) : (s.emit o).brightLat = s.brightLat := rfl
@[simp] theorem State.emit_dwellCnt (s : State) (o : Output) : (s.emit o).dwellCnt = s.dwellCnt := rfl
@[simp] theorem State.emit_pinData (s : State) (o : Output) : (s.emit o).pinData = s.pinData := rfl
@[simp] theorem State.emit_pinClk (s : State) (o : Output) : (s.emit o).pinClk = s.pinClk := rfl
@[simp] theorem State.emit_pinLat (s : State) (o : Output) : (s.emit o).pinLat = s.pinLat := rfl
@[simp] theorem State.emit_pinOeN (s : State) (o : Output) : (s.emit o).pinOeN = s.pinOeN := rfl
@[simp] theorem State.emit_pinAddr (s : State) (o : Output) : (s.emit o).pinAddr = s.pinAddr := rfl
@[simp] theorem State.emit_hc (s : State) (o : Output) : (s.emit o).hc = s.hc := rfl
@[simp] theorem State.emit_panel (s : State) (o : Output) : (s.emit o).panel = s.panel := rfl
@[simp] theorem State.emit_ioErr (s : State) (o : Output) : (s.emit o).ioErr = s.ioErr := rfl
@[simp] theorem State.emit_schedule (s : State) (o : Output) : (s.emit o).schedule = s.schedule := rfl
@[simp] theorem State.emit_patience (s : State) (o : Output) : (s.emit o).patience = s.patience := rfl
@[simp] theorem State.emit_cmds (s : State) (o : Output) : (s.emit o).cmds = s.cmds := rfl
@[simp] theorem State.emit_draws (s : State) (o : Output) : (s.emit o).draws = s.draws := rfl
@[simp] theorem State.emit_trace (s : State) (o : Output) : (s.emit o).trace = o :: s.trace := rfl
/-! ### `State.respond` -/
@[simp] theorem State.respond_cfg (s : State) (w : Response) : (s.respond w).cfg = s.cfg := rfl
@[simp] theorem State.respond_fb (s : State) (w : Response) : (s.respond w).fb = s.fb := rfl
@[simp] theorem State.respond_brightness (s : State) (w : Response) : (s.respond w).brightness = s.brightness := rfl
@[simp] theorem State.respond_running (s : State) (w : Response) : (s.respond w).running = s.running := rfl
@[simp] theorem State.respond_stopReq (s : State) (w : Response) : (s.respond w).stopReq = s.stopReq := rfl
@[simp] theorem State.respond_status (s : State) (w : Response) : (s.respond w).status = s.status := rfl
@[simp] theorem State.respond_phase (s : State) (w : Response) : (s.respond w).phase = s.phase := rfl
@[simp] theorem State.respond_row (s : State) (w : Response) : (s.respond w).row = s.row := rfl
@[simp] theorem State.respond_col (s : State) (w : Response) : (s.respond w).col = s.col := rfl
@[simp] theorem State.respond_rowbuf (s : State) (w : Response) : (s.respond w).rowbuf = s.rowbuf := rfl
@[simp] theorem State.respond_pixTmp (s : State) (w : Response) : (s.respond w).pixTmp = s.pixTmp := rfl
@[simp] theorem State.respond_brightLat (s : State) (w : Response) : (s.respond w).brightLat = s.brightLat := rfl
@[simp] theorem State.respond_dwellCnt (s : State) (w : Response) : (s.respond w).dwellCnt = s.dwellCnt := rfl
@[simp] theorem State.respond_pinData (s : State) (w : Response) : (s.respond w).pinData = s.pinData := rfl
@[simp] theorem State.respond_pinClk (s : State) (w : Response) : (s.respond w).pinClk = s.pinClk := rfl
@[simp] theorem State.respond_pinLat (s : State) (w : Response) : (s.respond w).pinLat = s.pinLat := rfl
@[simp] theorem State.respond_pinOeN (s : State) (w : Response) : (s.respond w).pinOeN = s.pinOeN := rfl
@[simp] theorem State.respond_pinAddr (s : State) (w : Response) : (s.respond w).pinAddr = s.pinAddr := rfl
@[simp] theorem State.respond_hc (s : State) (w : Response) : (s.respond w).hc = s.hc := rfl
@[simp] theorem State.respond_panel (s : State) (w : Response) : (s.respond w).panel = s.panel := rfl
@[simp] theorem State.respond_ioErr (s : State) (w : Response) : (s.respond w).ioErr = s.ioErr := rfl
@[simp] theorem State.respond_schedule (s : State) (w : Response) : (s.respond w).schedule = s.schedule := rfl
@[simp] theorem State.respond_patience (s : State) (w : Response) : (s.respond w).patience = s.patience := rfl
@[simp] theorem State.respond_cmds (s : State) (w : Response) : (s.respond w).cmds = s.cmds := rfl
@[simp] theorem State.respond_draws (s : State) (w : Response) : (s.respond w).draws = s.draws := rfl
@[simp] theorem State.respond_trace (s : State) (w : Response) : (s.respond w).trace = .response w :: s.trace := rfl
/-! ### `State.goto` -/
@[simp] theorem State.goto_cfg (s : State) (p : Phase) : (s.goto p).cfg = s.cfg := rfl
@[simp] theorem State.goto_fb (s : State) (p : Phase) : (s.goto p).fb = s.fb := rfl
@[simp] theorem State.goto_brightness (s : State) (p : Phase) : (s.goto p).brightness = s.brightness := rfl
@[simp] theorem State.goto_running (s : State) (p : Phase) : (s.goto p).running = s.running := rfl
@[simp] theorem State.goto_stopReq (s : State) (p : Phase) : (s.goto p).stopReq = s.stopReq := rfl
@[simp] theorem State.goto_status (s : State) (p : Phase) : (s.goto p).status = s.status := rfl
@[simp] theorem State.goto_phase (s : State) (p : Phase) : (s.goto p).phase = p := rfl
@[simp] theorem State.goto_row (s : State) (p : Phase) : (s.goto p).row = s.row := rfl
@[simp] theorem State.goto_col (s : State) (p : Phase) : (s.goto p).col = s.col := rfl
@[simp] theorem State.goto_rowbuf (s : State) (p : Phase) : (s.goto p).rowbuf = s.rowbuf := rfl
@[simp] theorem State.goto_pixTmp (s : State) (p : Phase) : (s.goto p).pixTmp = s.pixTmp := rfl
@[simp] theorem State.goto_brightLat (s : State) (p : Phase) : (s.goto p).brightLat = s.brightLat := rfl
@[simp] theorem State.goto_dwellCnt (s : State) (p : Phase) : (s.goto p).dwellCnt = s.dwellCnt := rfl
@[simp] theorem State.goto_pinData (s : State) (p : Phase) : (s.goto p).pinData = s.pinData := rfl
@[simp] theorem State.goto_pinClk (s : State) (p : Phase) : (s.goto p).pinClk = s.pinClk := rfl
@[simp] theorem State.goto_pinLat (s : State) (p : Phase) : (s.goto p).pinLat = s.pinLat := rfl
@[simp] theorem State.goto_pinOeN (s : State) (p : Phase) : (s.goto p).pinOeN = s.pinOeN := rfl
@[simp] theorem State.goto_pinAddr (s : State) (p : Phase) : (s.goto p).pinAddr = s.pinAddr := rfl
@[simp] theorem State.goto_hc (s : State) (p : Phase) : (s.goto p).hc = s.hc := rfl
@[simp] theorem State.goto_panel (s : State) (p : Phase) : (s.goto p).panel = s.panel := rfl
@[simp] theorem State.goto_ioErr (s : State) (p : Phase) : (s.goto p).ioErr = s.ioErr := rfl
@[simp] theorem State.goto_schedule (s : State) (p : Phase) : (s.goto p).schedule = s.schedule := rfl
@[simp] theorem State.goto_patience (s : State) (p : Phase) : (s.goto p).patience = s.patience := rfl
@[simp] theorem State.goto_cmds (s : State) (p : Phase) : (s.goto p).cmds = s.cmds := rfl
@[simp] theorem State.goto_draws (s : State) (p : Phase) : (s.goto p).draws = s.draws := rfl
@[simp] theorem State.goto_trace (s : State) (p : Phase) : (s.goto p).trace = s.trace := rfl
/-! ### `State.setPf` -/
@[simp] theorem State.setPf_cfg (s : State) : (s.setPf).cfg = s.cfg := rfl
@[simp] theorem State.setPf_fb (s : State) : (s.setPf).fb = s.fb := rfl
@[simp] theorem State.setPf_brightness (s : State) : (s.setPf).brightness = s.brightness := rfl
@[simp] theorem State.setPf_running (s : State) : (s.setPf).running = s.running := rfl
@[simp] theorem State.setPf_stopReq (s : State) : (s.setPf).stopReq = s.stopReq := rfl
@[simp] theorem State.setPf_status (s : State) : (s.setPf).status = s.status ||| 0b01#2 := rfl
@[simp] theorem State.setPf_phase (s : State) : (s.setPf).phase = s.phase := rfl
@[simp] theorem State.setPf_row (s : State) : (s.setPf).row = s.row := rfl
@[simp] theorem State.setPf_col (s : State) : (s.setPf).col = s.col := rfl
@[simp] theorem State.setPf_rowbuf (s : State) : (s.setPf).rowbuf = s.rowbuf := rfl
@[simp] theorem State.setPf_pixTmp (s : State) : (s.setPf).pixTmp = s.pixTmp := rfl
@[simp] theorem State.setPf_brightLat (s : State) : (s.setPf).brightLat = s.brightLat := rfl
@[simp] theorem State.setPf_dwellCnt (s : State) : (s.setPf).dwellCnt = s.dwellCnt := rfl
@[simp] theorem State.setPf_pinData (s : State) : (s.setPf).pinData = s.pinData := rfl
@[simp] theorem State.setPf_pinClk (s : State) : (s.setPf).pinClk = s.pinClk := rfl
@[simp] theorem State.setPf_pinLat (s : State) : (s.setPf).pinLat = s.pinLat := rfl
@[simp] theorem State.setPf_pinOeN (s : State) : (s.setPf).pinOeN = s.pinOeN := rfl
@[simp] theorem State.setPf_pinAddr (s : State) : (s.setPf).pinAddr = s.pinAddr := rfl
@[simp] theorem State.setPf_hc (s : State) : (s.setPf).hc = s.hc := rfl
@[simp] theorem State.setPf_panel (s : State) : (s.setPf).panel = s.panel := rfl
@[simp] theorem State.setPf_ioErr (s : State) : (s.setPf).ioErr = s.ioErr := rfl
@[simp] theorem State.setPf_schedule (s : State) : (s.setPf).schedule = s.schedule := rfl
@[simp] theorem State.setPf_patience (s : State) : (s.setPf).patience = s.patience := rfl
@[simp] theorem State.setPf_cmds (s : State) : (s.setPf).cmds = s.cmds := rfl
@[simp] theorem State.setPf_draws (s : State) : (s.setPf).draws = s.draws := rfl
@[simp] theorem State.setPf_trace (s : State) : (s.setPf).trace = s.trace := rfl
/-! ### `State.setIc` -/
@[simp] theorem State.setIc_cfg (s : State) : (s.setIc).cfg = s.cfg := rfl
@[simp] theorem State.setIc_fb (s : State) : (s.setIc).fb = s.fb := rfl
@[simp] theorem State.setIc_brightness (s : State) : (s.setIc).brightness = s.brightness := rfl
@[simp] theorem State.setIc_running (s : State) : (s.setIc).running = s.running := rfl
@[simp] theorem State.setIc_stopReq (s : State) : (s.setIc).stopReq = s.stopReq := rfl
@[simp] theorem State.setIc_status (s : State) : (s.setIc).status = s.status ||| 0b10#2 := rfl
@[simp] theorem State.setIc_phase (s : State) : (s.setIc).phase = s.phase := rfl
@[simp] theorem State.setIc_row (s : State) : (s.setIc).row = s.row := rfl
@[simp] theorem State.setIc_col (s : State) : (s.setIc).col = s.col := rfl
@[simp] theorem State.setIc_rowbuf (s : State) : (s.setIc).rowbuf = s.rowbuf := rfl
@[simp] theorem State.setIc_pixTmp (s : State) : (s.setIc).pixTmp = s.pixTmp := rfl
@[simp] theorem State.setIc_brightLat (s : State) : (s.setIc).brightLat = s.brightLat := rfl
@[simp] theorem State.setIc_dwellCnt (s : State) : (s.setIc).dwellCnt = s.dwellCnt := rfl
@[simp] theorem State.setIc_pinData (s : State) : (s.setIc).pinData = s.pinData := rfl
@[simp] theorem State.setIc_pinClk (s : State) : (s.setIc).pinClk = s.pinClk := rfl
@[simp] theorem State.setIc_pinLat (s : State) : (s.setIc).pinLat = s.pinLat := rfl
@[simp] theorem State.setIc_pinOeN (s : State) : (s.setIc).pinOeN = s.pinOeN := rfl
@[simp] theorem State.setIc_pinAddr (s : State) : (s.setIc).pinAddr = s.pinAddr := rfl
@[simp] theorem State.setIc_hc (s : State) : (s.setIc).hc = s.hc := rfl
@[simp] theorem State.setIc_panel (s : State) : (s.setIc).panel = s.panel := rfl
@[simp] theorem State.setIc_ioErr (s : State) : (s.setIc).ioErr = s.ioErr := rfl
@[simp] theorem State.setIc_schedule (s : State) : (s.setIc).schedule = s.schedule := rfl
@[simp] theorem State.setIc_patience (s : State) : (s.setIc).patience = s.patience := rfl
@[simp] theorem State.setIc_cmds (s : State) : (s.setIc).cmds = s.cmds := rfl
@[simp] theorem State.setIc_draws (s : State) : (s.setIc).draws = s.draws := rfl
@[simp] theorem State.setIc_trace (s : State) : (s.setIc).trace = s.trace := rfl
/-! ### `State.drawn` -/
@[simp] theorem State.drawn_cfg (s : State) : (s.drawn).cfg = s.cfg := rfl
@[simp] theorem State.drawn_fb (s : State) : (s.drawn).fb = s.fb := rfl
@[simp] theorem State.drawn_brightness (s : State) : (s.drawn).brightness = s.brightness := rfl
@[simp] theorem State.drawn_running (s : State) : (s.drawn).running = s.running := rfl
@[simp] theorem State.drawn_stopReq (s : State) : (s.drawn).stopReq = s.stopReq := rfl
@[simp] theorem State.drawn_status (s : State) : (s.drawn).status = s.status := rfl
@[simp] theorem State.drawn_phase (s : State) : (s.drawn).phase = s.phase := rfl
@[simp] theorem State.drawn_row (s : State) : (s.drawn).row = s.row := rfl
@[simp] theorem State.drawn_col (s : State) : (s.drawn).col = s.col := rfl
@[simp] theorem State.drawn_rowbuf (s : State) : (s.drawn).rowbuf = s.rowbuf := rfl
@[simp] theorem State.drawn_pixTmp (s : State) : (s.drawn).pixTmp = s.pixTmp := rfl
@[simp] theorem State.drawn_brightLat (s : State) : (s.drawn).brightLat = s.brightLat := rfl
@[simp] theorem State.drawn_dwellCnt (s : State) : (s.drawn).dwellCnt = s.dwellCnt := rfl
@[simp] theorem State.drawn_pinData (s : State) : (s.drawn).pinData = s.pinData := rfl
@[simp] theorem State.drawn_pinClk (s : State) : (s.drawn).pinClk = s.pinClk := rfl
@[simp] theorem State.drawn_pinLat (s : State) : (s.drawn).pinLat = s.pinLat := rfl
@[simp] theorem State.drawn_pinOeN (s : State) : (s.drawn).pinOeN = s.pinOeN := rfl
@[simp] theorem State.drawn_pinAddr (s : State) : (s.drawn).pinAddr = s.pinAddr := rfl
@[simp] theorem State.drawn_hc (s : State) : (s.drawn).hc = s.hc := rfl
@[simp] theorem State.drawn_panel (s : State) : (s.drawn).panel = s.panel := rfl
@[simp] theorem State.drawn_ioErr (s : State) : (s.drawn).ioErr = s.ioErr := rfl
@[simp] theorem State.drawn_schedule (s : State) : (s.drawn).schedule = s.schedule := rfl
@[simp] theorem State.drawn_patience (s : State) : (s.drawn).patience = s.patience := rfl
@[simp] theorem State.drawn_cmds (s : State) : (s.drawn).cmds = s.cmds := rfl
@[simp] theorem State.drawn_draws (s : State) : (s.drawn).draws = s.draws + 1 := rfl
@[simp] theorem State.drawn_trace (s : State) : (s.drawn).trace = s.trace := rfl
/-! ### `State.pixWrite` -/
@[simp] theorem State.pixWrite_cfg (s : State) (x y : Nat) (r g b : Byte) : (s.pixWrite x y r g b).cfg = s.cfg := rfl
@[simp] theorem State.pixWrite_fb (s : State) (x y : Nat) (r g b : Byte) : (s.pixWrite x y r g b).fb = Memory.write3 s.fb (pixOff x y) r g b := rfl
@[simp] theorem State.pixWrite_brightness (s : State) (x y : Nat) (r g b : Byte) : (s.pixWrite x y r g b).brightness = s.brightness := rfl
@[simp] theorem State.pixWrite_running (s : State) (x y : Nat) (r g b : Byte) : (s.pixWrite x y r g b).running = s.running := rfl
@[simp] theorem State.pixWrite_stopReq (s : State) (x y : Nat) (r g b : Byte) : (s.pixWrite x y r g b).stopReq = s.stopReq := rfl
@[simp] theorem State.pixWrite_status (s : State) (x y : Nat) (r g b : Byte) : (s.pixWrite x y r g b).status = s.status := rfl
@[simp] theorem State.pixWrite_phase (s : State) (x y : Nat) (r g b : Byte) : (s.pixWrite x y r g b).phase = s.phase := rfl
@[simp] theorem State.pixWrite_row (s : State) (x y : Nat) (r g b : Byte) : (s.pixWrite x y r g b).row = s.row := rfl
@[simp] theorem State.pixWrite_col (s : State) (x y : Nat) (r g b : Byte) : (s.pixWrite x y r g b).col = s.col := rfl
@[simp] theorem State.pixWrite_rowbuf (s : State) (x y : Nat) (r g b : Byte) : (s.pixWrite x y r g b).rowbuf = s.rowbuf := rfl
@[simp] theorem State.pixWrite_pixTmp (s : State) (x y : Nat) (r g b : Byte) : (s.pixWrite x y r g b).pixTmp = s.pixTmp := rfl
@[simp] theorem State.pixWrite_brightLat (s : State) (x y : Nat) (r g b : Byte) : (s.pixWrite x y r g b).brightLat = s.brightLat := rfl
@[simp] theorem State.pixWrite_dwellCnt (s : State) (x y : Nat) (r g b : Byte) : (s.pixWrite x y r g b).dwellCnt = s.dwellCnt := rfl
@[simp] theorem State.pixWrite_pinData (s : State) (x y : Nat) (r g b : Byte) : (s.pixWrite x y r g b).pinData = s.pinData := rfl
@[simp] theorem State.pixWrite_pinClk (s : State) (x y : Nat) (r g b : Byte) : (s.pixWrite x y r g b).pinClk = s.pinClk := rfl
@[simp] theorem State.pixWrite_pinLat (s : State) (x y : Nat) (r g b : Byte) : (s.pixWrite x y r g b).pinLat = s.pinLat := rfl
@[simp] theorem State.pixWrite_pinOeN (s : State) (x y : Nat) (r g b : Byte) : (s.pixWrite x y r g b).pinOeN = s.pinOeN := rfl
@[simp] theorem State.pixWrite_pinAddr (s : State) (x y : Nat) (r g b : Byte) : (s.pixWrite x y r g b).pinAddr = s.pinAddr := rfl
@[simp] theorem State.pixWrite_hc (s : State) (x y : Nat) (r g b : Byte) : (s.pixWrite x y r g b).hc = s.hc := rfl
@[simp] theorem State.pixWrite_panel (s : State) (x y : Nat) (r g b : Byte) : (s.pixWrite x y r g b).panel = s.panel := rfl
@[simp] theorem State.pixWrite_ioErr (s : State) (x y : Nat) (r g b : Byte) : (s.pixWrite x y r g b).ioErr = s.ioErr := rfl
@[simp] theorem State.pixWrite_schedule (s : State) (x y : Nat) (r g b : Byte) : (s.pixWrite x y r g b).schedule = s.schedule := rfl
@[simp] theorem State.pixWrite_patience (s : State) (x y : Nat) (r g b : Byte) : (s.pixWrite x y r g b).patience = s.patience := rfl
@[simp] theorem State.pixWrite_cmds (s : State) (x y : Nat) (r g b : Byte) : (s.pixWrite x y r g b).cmds = s.cmds := rfl
@[simp] theorem State.pixWrite_draws (s : State) (x y : Nat) (r g b : Byte) : (s.pixWrite x y r g b).draws = s.draws := rfl
@[simp] theorem State.pixWrite_trace (s : State) (x y : Nat) (r g b : Byte) : (s.pixWrite x y r g b).trace = s.trace := rfl
/-! ### `State.setRowWord` -/
@[simp] theorem State.setRowWord_cfg (s : State) (c : BitVec 6) (w : Byte) : (s.setRowWord c w).cfg = s.cfg := rfl
@[simp] theorem State.setRowWord_fb (s : State) (c : BitVec 6) (w : Byte) : (s.setRowWord c w).fb = s.fb := rfl
@[simp] theorem State.setRowWord_brightness (s : State) (c : BitVec 6) (w : Byte) : (s.setRowWord c w).brightness = s.brightness := rfl
@[simp] theorem State.setRowWord_running (s : State) (c : BitVec 6) (w : Byte) : (s.setRowWord c w).running = s.running := rfl
@[simp] theorem State.setRowWord_stopReq (s : State) (c : BitVec 6) (w : Byte) : (s.setRowWord c w).stopReq = s.stopReq := rfl
@[simp] theorem State.setRowWord_status (s : State) (c : BitVec 6) (w : Byte) : (s.setRowWord c w).status = s.status := rfl
@[simp] theorem State.setRowWord_phase (s : State) (c : BitVec 6) (w : Byte) : (s.setRowWord c w).phase = s.phase := rfl
@[simp] theorem State.setRowWord_row (s : State) (c : BitVec 6) (w : Byte) : (s.setRowWord c w).row = s.row := rfl
@[simp] theorem State.setRowWord_col (s : State) (c : BitVec 6) (w : Byte) : (s.setRowWord c w).col = s.col := rfl
@[simp] theorem State.setRowWord_rowbuf (s : State) (c : BitVec 6) (w : Byte) : (s.setRowWord c w).rowbuf = s.rowbuf.set c.toNat w c.isLt := rfl
@[simp] theorem State.setRowWord_pixTmp (s : State) (c : BitVec 6) (w : Byte) : (s.setRowWord c w).pixTmp = s.pixTmp := rfl
@[simp] theorem State.setRowWord_brightLat (s : State) (c : BitVec 6) (w : Byte) : (s.setRowWord c w).brightLat = s.brightLat := rfl
@[simp] theorem State.setRowWord_dwellCnt (s : State) (c : BitVec 6) (w : Byte) : (s.setRowWord c w).dwellCnt = s.dwellCnt := rfl
@[simp] theorem State.setRowWord_pinData (s : State) (c : BitVec 6) (w : Byte) : (s.setRowWord c w).pinData = s.pinData := rfl
@[simp] theorem State.setRowWord_pinClk (s : State) (c : BitVec 6) (w : Byte) : (s.setRowWord c w).pinClk = s.pinClk := rfl
@[simp] theorem State.setRowWord_pinLat (s : State) (c : BitVec 6) (w : Byte) : (s.setRowWord c w).pinLat = s.pinLat := rfl
@[simp] theorem State.setRowWord_pinOeN (s : State) (c : BitVec 6) (w : Byte) : (s.setRowWord c w).pinOeN = s.pinOeN := rfl
@[simp] theorem State.setRowWord_pinAddr (s : State) (c : BitVec 6) (w : Byte) : (s.setRowWord c w).pinAddr = s.pinAddr := rfl
@[simp] theorem State.setRowWord_hc (s : State) (c : BitVec 6) (w : Byte) : (s.setRowWord c w).hc = s.hc := rfl
@[simp] theorem State.setRowWord_panel (s : State) (c : BitVec 6) (w : Byte) : (s.setRowWord c w).panel = s.panel := rfl
@[simp] theorem State.setRowWord_ioErr (s : State) (c : BitVec 6) (w : Byte) : (s.setRowWord c w).ioErr = s.ioErr := rfl
@[simp] theorem State.setRowWord_schedule (s : State) (c : BitVec 6) (w : Byte) : (s.setRowWord c w).schedule = s.schedule := rfl
@[simp] theorem State.setRowWord_patience (s : State) (c : BitVec 6) (w : Byte) : (s.setRowWord c w).patience = s.patience := rfl
@[simp] theorem State.setRowWord_cmds (s : State) (c : BitVec 6) (w : Byte) : (s.setRowWord c w).cmds = s.cmds := rfl
@[simp] theorem State.setRowWord_draws (s : State) (c : BitVec 6) (w : Byte) : (s.setRowWord c w).draws = s.draws := rfl
@[simp] theorem State.setRowWord_trace (s : State) (c : BitVec 6) (w : Byte) : (s.setRowWord c w).trace = s.trace := rfl
/-! ### `State.raise` -/
@[simp] theorem State.raise_cfg (s : State) (c : Cause) : (s.raise c).cfg = s.cfg := by cases c <;> rfl
@[simp] theorem State.raise_fb (s : State) (c : Cause) : (s.raise c).fb = s.fb := by cases c <;> rfl
@[simp] theorem State.raise_brightness (s : State) (c : Cause) : (s.raise c).brightness = s.brightness := by cases c <;> rfl
@[simp] theorem State.raise_running (s : State) (c : Cause) : (s.raise c).running = s.running := by cases c <;> rfl
@[simp] theorem State.raise_stopReq (s : State) (c : Cause) : (s.raise c).stopReq = s.stopReq := by cases c <;> rfl
@[simp] theorem State.raise_phase (s : State) (c : Cause) : (s.raise c).phase = s.phase := by cases c <;> rfl
@[simp] theorem State.raise_row (s : State) (c : Cause) : (s.raise c).row = s.row := by cases c <;> rfl
@[simp] theorem State.raise_col (s : State) (c : Cause) : (s.raise c).col = s.col := by cases c <;> rfl
@[simp] theorem State.raise_rowbuf (s : State) (c : Cause) : (s.raise c).rowbuf = s.rowbuf := by cases c <;> rfl
@[simp] theorem State.raise_pixTmp (s : State) (c : Cause) : (s.raise c).pixTmp = s.pixTmp := by cases c <;> rfl
@[simp] theorem State.raise_brightLat (s : State) (c : Cause) : (s.raise c).brightLat = s.brightLat := by cases c <;> rfl
@[simp] theorem State.raise_dwellCnt (s : State) (c : Cause) : (s.raise c).dwellCnt = s.dwellCnt := by cases c <;> rfl
@[simp] theorem State.raise_pinData (s : State) (c : Cause) : (s.raise c).pinData = s.pinData := by cases c <;> rfl
@[simp] theorem State.raise_pinClk (s : State) (c : Cause) : (s.raise c).pinClk = s.pinClk := by cases c <;> rfl
@[simp] theorem State.raise_pinLat (s : State) (c : Cause) : (s.raise c).pinLat = s.pinLat := by cases c <;> rfl
@[simp] theorem State.raise_pinOeN (s : State) (c : Cause) : (s.raise c).pinOeN = s.pinOeN := by cases c <;> rfl
@[simp] theorem State.raise_pinAddr (s : State) (c : Cause) : (s.raise c).pinAddr = s.pinAddr := by cases c <;> rfl
@[simp] theorem State.raise_hc (s : State) (c : Cause) : (s.raise c).hc = s.hc := by cases c <;> rfl
@[simp] theorem State.raise_panel (s : State) (c : Cause) : (s.raise c).panel = s.panel := by cases c <;> rfl
@[simp] theorem State.raise_ioErr (s : State) (c : Cause) : (s.raise c).ioErr = s.ioErr := by cases c <;> rfl
@[simp] theorem State.raise_schedule (s : State) (c : Cause) : (s.raise c).schedule = s.schedule := by cases c <;> rfl
@[simp] theorem State.raise_patience (s : State) (c : Cause) : (s.raise c).patience = s.patience := by cases c <;> rfl
@[simp] theorem State.raise_cmds (s : State) (c : Cause) : (s.raise c).cmds = s.cmds := by cases c <;> rfl
@[simp] theorem State.raise_draws (s : State) (c : Cause) : (s.raise c).draws = s.draws := by cases c <;> rfl
/-! ### `State.drive` -/
@[simp] theorem State.drive_cfg (s : State) (w : PinWrite) : (s.drive w).cfg = s.cfg := by cases w <;> rfl
@[simp] theorem State.drive_fb (s : State) (w : PinWrite) : (s.drive w).fb = s.fb := by cases w <;> rfl
@[simp] theorem State.drive_brightness (s : State) (w : PinWrite) : (s.drive w).brightness = s.brightness := by cases w <;> rfl
@[simp] theorem State.drive_running (s : State) (w : PinWrite) : (s.drive w).running = s.running := by cases w <;> rfl
@[simp] theorem State.drive_stopReq (s : State) (w : PinWrite) : (s.drive w).stopReq = s.stopReq := by cases w <;> rfl
@[simp] theorem State.drive_status (s : State) (w : PinWrite) : (s.drive w).status = s.status := by cases w <;> rfl
@[simp] theorem State.drive_phase (s : State) (w : PinWrite) : (s.drive w).phase = s.phase := by cases w <;> rfl
@[simp] theorem State.drive_row (s : State) (w : PinWrite) : (s.drive w).row = s.row := by cases w <;> rfl
@[simp] theorem State.drive_col (s : State) (w : PinWrite) : (s.drive w).col = s.col := by cases w <;> rfl
@[simp] theorem State.drive_rowbuf (s : State) (w : PinWrite) : (s.drive w).rowbuf = s.rowbuf := by cases w <;> rfl
@[simp] theorem State.drive_pixTmp (s : State) (w : PinWrite) : (s.drive w).pixTmp = s.pixTmp := by cases w <;> rfl
@[simp] theorem State.drive_brightLat (s : State) (w : PinWrite) : (s.drive w).brightLat = s.brightLat := by cases w <;> rfl
@[simp] theorem State.drive_dwellCnt (s : State) (w : PinWrite) : (s.drive w).dwellCnt = s.dwellCnt := by cases w <;> rfl
@[simp] theorem State.drive_hc (s : State) (w : PinWrite) : (s.drive w).hc = s.hc := by cases w <;> rfl
@[simp] theorem State.drive_ioErr (s : State) (w : PinWrite) : (s.drive w).ioErr = s.ioErr := by cases w <;> rfl
@[simp] theorem State.drive_schedule (s : State) (w : PinWrite) : (s.drive w).schedule = s.schedule := by cases w <;> rfl
@[simp] theorem State.drive_patience (s : State) (w : PinWrite) : (s.drive w).patience = s.patience := by cases w <;> rfl
@[simp] theorem State.drive_cmds (s : State) (w : PinWrite) : (s.drive w).cmds = s.cmds := by cases w <;> rfl
@[simp] theorem State.drive_draws (s : State) (w : PinWrite) : (s.drive w).draws = s.draws := by cases w <;> rfl
/-! ### `State.pinWrite` -/
@[simp] theorem State.pinWrite_cfg (s : State) (w : PinWrite) : (s.pinWrite w).cfg = s.cfg := by unfold State.pinWrite; split <;> simp
@[simp] theorem State.pinWrite_fb (s : State) (w : PinWrite) : (s.pinWrite w).fb = s.fb := by unfold State.pinWrite; split <;> simp
@[simp] theorem State.pinWrite_brightness (s : State) (w : PinWrite) : (s.pinWrite w).brightness = s.brightness := by unfold State.pinWrite; split <;> simp
@[simp] theorem State.pinWrite_running (s : State) (w : PinWrite) : (s.pinWrite w).running = s.running := by unfold State.pinWrite; split <;> simp
@[simp] theorem State.pinWrite_stopReq (s : State) (w : PinWrite) : (s.pinWrite w).stopReq = s.stopReq := by unfold State.pinWrite; split <;> simp
@[simp] theorem State.pinWrite_phase (s : State) (w : PinWrite) : (s.pinWrite w).phase = s.phase := by unfold State.pinWrite; split <;> simp
@[simp] theorem State.pinWrite_row (s : State) (w : PinWrite) : (s.pinWrite w).row = s.row := by unfold State.pinWrite; split <;> simp
@[simp] theorem State.pinWrite_col (s : State) (w : PinWrite) : (s.pinWrite w).col = s.col := by unfold State.pinWrite; split <;> simp
@[simp] theorem State.pinWrite_rowbuf (s : State) (w : PinWrite) : (s.pinWrite w).rowbuf = s.rowbuf := by unfold State.pinWrite; split <;> simp
@[simp] theorem State.pinWrite_pixTmp (s : State) (w : PinWrite) : (s.pinWrite w).pixTmp = s.pixTmp := by unfold State.pinWrite; split <;> simp
@[simp] theorem State.pinWrite_brightLat (s : State) (w : PinWrite) : (s.pinWrite w).brightLat = s.brightLat := by unfold State.pinWrite; split <;> simp
@[simp] theorem State.pinWrite_dwellCnt (s : State) (w : PinWrite) : (s.pinWrite w).dwellCnt = s.dwellCnt := by unfold State.pinWrite; split <;> simp
@[simp] theorem State.pinWrite_hc (s : State) (w : PinWrite) : (s.pinWrite w).hc = s.hc := by unfold State.pinWrite; split <;> simp
@[simp] theorem State.pinWrite_ioErr (s : State) (w : PinWrite) : (s.pinWrite w).ioErr = s.ioErr := by unfold State.pinWrite; split <;> simp
@[simp] theorem State.pinWrite_schedule (s : State) (w : PinWrite) : (s.pinWrite w).schedule = s.schedule := by unfold State.pinWrite; split <;> simp
@[simp] theorem State.pinWrite_patience (s : State) (w : PinWrite) : (s.pinWrite w).patience = s.patience := by unfold State.pinWrite; split <;> simp
@[simp] theorem State.pinWrite_cmds (s : State) (w : PinWrite) : (s.pinWrite w).cmds = s.cmds := by unfold State.pinWrite; split <;> simp
/-! ### `State.putPixel` -/
@[simp] theorem State.putPixel_cfg (s : State) (x y : Int) (r g b : Byte) : (s.putPixel x y r g b).cfg = s.cfg := by unfold State.putPixel; split <;> rfl
@[simp] theorem State.putPixel_brightness (s : State) (x y : Int) (r g b : Byte) : (s.putPixel x y r g b).brightness = s.brightness := by unfold State.putPixel; split <;> rfl
@[simp] theorem State.putPixel_running (s : State) (x y : Int) (r g b : Byte) : (s.putPixel x y r g b).running = s.running := by unfold State.putPixel; split <;> rfl
@[simp] theorem State.putPixel_stopReq (s : State) (x y : Int) (r g b : Byte) : (s.putPixel x y r g b).stopReq = s.stopReq := by unfold State.putPixel; split <;> rfl
@[simp] theorem State.putPixel_status (s : State) (x y : Int) (r g b : Byte) : (s.putPixel x y r g b).status = s.status := by unfold State.putPixel; split <;> rfl
@[simp] theorem State.putPixel_phase (s : State) (x y : Int) (r g b : Byte) : (s.putPixel x y r g b).phase = s.phase := by unfold State.putPixel; split <;> rfl
@[simp] theorem State.putPixel_row (s : State) (x y : Int) (r g b : Byte) : (s.putPixel x y r g b).row = s.row := by unfold State.putPixel; split <;> rfl
@[simp] theorem State.putPixel_col (s : State) (x y : Int) (r g b : Byte) : (s.putPixel x y r g b).col = s.col := by unfold State.putPixel; split <;> rfl
@[simp] theorem State.putPixel_rowbuf (s : State) (x y : Int) (r g b : Byte) : (s.putPixel x y r g b).rowbuf = s.rowbuf := by unfold State.putPixel; split <;> rfl
@[simp] theorem State.putPixel_pixTmp (s : State) (x y : Int) (r g b : Byte) : (s.putPixel x y r g b).pixTmp = s.pixTmp := by unfold State.putPixel; split <;> rfl
@[simp] theorem State.putPixel_brightLat (s : State) (x y : Int) (r g b : Byte) : (s.putPixel x y r g b).brightLat = s.brightLat := by unfold State.putPixel; split <;> rfl
@[simp] theorem State.putPixel_dwellCnt (s : State) (x y : Int) (r g b : Byte) : (s.putPixel x y r g b).dwellCnt = s.dwellCnt := by unfold State.putPixel; split <;> rfl
@[simp] theorem State.putPixel_pinData (s : State) (x y : Int) (r g b : Byte) : (s.putPixel x y r g b).pinData = s.pinData := by unfold State.putPixel; split <;> rfl
@[simp] theorem State.putPixel_pinClk (s : State) (x y : Int) (r g b : Byte) : (s.putPixel x y r g b).pinClk = s.pinClk := by unfold State.putPixel; split <;> rfl
@[simp] theorem State.putPixel_pinLat (s : State) (x y : Int) (r g b : Byte) : (s.putPixel x y r g b).pinLat = s.pinLat := by unfold State.putPixel; split <;> rfl
@[simp] theorem State.putPixel_pinOeN (s : State) (x y : Int) (r g b : Byte) : (s.putPixel x y r g b).pinOeN = s.pinOeN := by unfold State.putPixel; split <;> rfl
@[simp] theorem State.putPixel_pinAddr (s : State) (x y : Int) (r g b : Byte) : (s.putPixel x y r g b).pinAddr = s.pinAddr := by unfold State.putPixel; split <;> rfl
@[simp] theorem State.putPixel_hc (s : State) (x y : Int) (r g b : Byte) : (s.putPixel x y r g b).hc = s.hc := by unfold State.putPixel; split <;> rfl
@[simp] theorem State.putPixel_panel (s : State) (x y : Int) (r g b : Byte) : (s.putPixel x y r g b).panel = s.panel := by unfold State.putPixel; split <;> rfl
@[simp] theorem State.putPixel_ioErr (s : State) (x y : Int) (r g b : Byte) : (s.putPixel x y r g b).ioErr = s.ioErr := by unfold State.putPixel; split <;> rfl
@[simp] theorem State.putPixel_schedule (s : State) (x y : Int) (r g b : Byte) : (s.putPixel x y r g b).schedule = s.schedule := by unfold State.putPixel; split <;> rfl
@[simp] theorem State.putPixel_patience (s : State) (x y : Int) (r g b : Byte) : (s.putPixel x y r g b).patience = s.patience := by unfold State.putPixel; split <;> rfl
@[simp] theorem State.putPixel_cmds (s : State) (x y : Int) (r g b : Byte) : (s.putPixel x y r g b).cmds = s.cmds := by unfold State.putPixel; split <;> rfl
@[simp] theorem State.putPixel_draws (s : State) (x y : Int) (r g b : Byte) : (s.putPixel x y r g b).draws = s.draws := by unfold State.putPixel; split <;> rfl
@[simp] theorem State.putPixel_trace (s : State) (x y : Int) (r g b : Byte) : (s.putPixel x y r g b).trace = s.trace := by unfold State.putPixel; split <;> rfl
/-! ### `State.nextCol` -/
@[simp] theorem State.nextCol_cfg (s : State) (m l : Phase) : (s.nextCol m l).cfg = s.cfg := by unfold State.nextCol; split <;> rfl
@[simp] theorem State.nextCol_fb (s : State) (m l : Phase) : (s.nextCol m l).fb = s.fb := by unfold State.nextCol; split <;> rfl
@[simp] theorem State.nextCol_brightness (s : State) (m l : Phase) : (s.nextCol m l).brightness = s.brightness := by unfold State.nextCol; split <;> rfl
@[simp] theorem State.nextCol_running (s : State) (m l : Phase) : (s.nextCol m l).running = s.running := by unfold State.nextCol; split <;> rfl
@[simp] theorem State.nextCol_stopReq (s : State) (m l : Phase) : (s.nextCol m l).stopReq = s.stopReq := by unfold State.nextCol; split <;> rfl
@[simp] theorem State.nextCol_status (s : State) (m l : Phase) : (s.nextCol m l).status = s.status := by unfold State.nextCol; split <;> rfl
@[simp] theorem State.nextCol_row (s : State) (m l : Phase) : (s.nextCol m l).row = s.row := by unfold State.nextCol; split <;> rfl
@[simp] theorem State.nextCol_rowbuf (s : State) (m l : Phase) : (s.nextCol m l).rowbuf = s.rowbuf := by unfold State.nextCol; split <;> rfl
@[simp] theorem State.nextCol_pixTmp (s : State) (m l : Phase) : (s.nextCol m l).pixTmp = s.pixTmp := by unfold State.nextCol; split <;> rfl
@[simp] theorem State.nextCol_brightLat (s : State) (m l : Phase) : (s.nextCol m l).brightLat = s.brightLat := by unfold State.nextCol; split <;> rfl
@[simp] theorem State.nextCol_dwellCnt (s : State) (m l : Phase) : (s.nextCol m l).dwellCnt = s.dwellCnt := by unfold State.nextCol; split <;> rfl
@[simp] theorem State.nextCol_pinData (s : State) (m l : Phase) : (s.nextCol m l).pinData = s.pinData := by unfold State.nextCol; split <;> rfl
@[simp] theorem State.nextCol_pinClk (s : State) (m l : Phase) : (s.nextCol m l).pinClk = s.pinClk := by unfold State.nextCol; split <;> rfl
@[simp] theorem State.nextCol_pinLat (s : State) (m l : Phase) : (s.nextCol m l).pinLat = s.pinLat := by unfold State.nextCol; split <;> rfl
@[simp] theorem State.nextCol_pinOeN (s : State) (m l : Phase) : (s.nextCol m l).pinOeN = s.pinOeN := by unfold State.nextCol; split <;> rfl
@[simp] theorem State.nextCol_pinAddr (s : State) (m l : Phase) : (s.nextCol m l).pinAddr = s.pinAddr := by unfold State.nextCol; split <;> rfl
@[simp] theorem State.nextCol_hc (s : State) (m l : Phase) : (s.nextCol m l).hc = s.hc := by unfold State.nextCol; split <;> rfl
@[simp] theorem State.nextCol_panel (s : State) (m l : Phase) : (s.nextCol m l).panel = s.panel := by unfold State.nextCol; split <;> rfl
@[simp] theorem State.nextCol_ioErr (s : State) (m l : Phase) : (s.nextCol m l).ioErr = s.ioErr := by unfold State.nextCol; split <;> rfl
@[simp] theorem State.nextCol_schedule (s : State) (m l : Phase) : (s.nextCol m l).schedule = s.schedule := by unfold State.nextCol; split <;> rfl
@[simp] theorem State.nextCol_patience (s : State) (m l : Phase) : (s.nextCol m l).patience = s.patience := by unfold State.nextCol; split <;> rfl
@[simp] theorem State.nextCol_cmds (s : State) (m l : Phase) : (s.nextCol m l).cmds = s.cmds := by unfold State.nextCol; split <;> rfl
@[simp] theorem State.nextCol_draws (s : State) (m l : Phase) : (s.nextCol m l).draws = s.draws := by unfold State.nextCol; split <;> rfl
@[simp] theorem State.nextCol_trace (s : State) (m l : Phase) : (s.nextCol m l).trace = s.trace := by unfold State.nextCol; split <;> rfl
/-! ### `State.advanceRow` -/
@[simp] theorem State.advanceRow_cfg (s : State) : (s.advanceRow).cfg = s.cfg := by unfold State.advanceRow; split <;> rfl
@[simp] theorem State.advanceRow_fb (s : State) : (s.advanceRow).fb = s.fb := by unfold State.advanceRow; split <;> rfl
@[simp] theorem State.advanceRow_brightness (s : State) : (s.advanceRow).brightness = s.brightness := by unfold State.advanceRow; split <;> rfl
@[simp] theorem State.advanceRow_running (s : State) : (s.advanceRow).running = s.running := by unfold State.advanceRow; split <;> rfl
@[simp] theorem State.advanceRow_stopReq (s : State) : (s.advanceRow).stopReq = s.stopReq := by unfold State.advanceRow; split <;> rfl
@[simp] theorem State.advanceRow_status (s : State) : (s.advanceRow).status = s.status := by unfold State.advanceRow; split <;> rfl
@[simp] theorem State.advanceRow_col (s : State) : (s.advanceRow).col = s.col := by unfold State.advanceRow; split <;> rfl
@[simp] theorem State.advanceRow_rowbuf (s : State) : (s.advanceRow).rowbuf = s.rowbuf := by unfold State.advanceRow; split <;> rfl
@[simp] theorem State.advanceRow_pixTmp (s : State) : (s.advanceRow).pixTmp = s.pixTmp := by unfold State.advanceRow; split <;> rfl
@[simp] theorem State.advanceRow_brightLat (s : State) : (s.advanceRow).brightLat = s.brightLat := by unfold State.advanceRow; split <;> rfl
@[simp] theorem State.advanceRow_dwellCnt (s : State) : (s.advanceRow).dwellCnt = s.dwellCnt := by unfold State.advanceRow; split <;> rfl
@[simp] theorem State.advanceRow_pinData (s : State) : (s.advanceRow).pinData = s.pinData := by unfold State.advanceRow; split <;> rfl
@[simp] theorem State.advanceRow_pinClk (s : State) : (s.advanceRow).pinClk = s.pinClk := by unfold State.advanceRow; split <;> rfl
@[simp] theorem State.advanceRow_pinLat (s : State) : (s.advanceRow).pinLat = s.pinLat := by unfold State.advanceRow; split <;> rfl
@[simp] theorem State.advanceRow_pinOeN (s : State) : (s.advanceRow).pinOeN = s.pinOeN := by unfold State.advanceRow; split <;> rfl
@[simp] theorem State.advanceRow_pinAddr (s : State) : (s.advanceRow).pinAddr = s.pinAddr := by unfold State.advanceRow; split <;> rfl
@[simp] theorem State.advanceRow_hc (s : State) : (s.advanceRow).hc = s.hc := by unfold State.advanceRow; split <;> rfl
@[simp] theorem State.advanceRow_panel (s : State) : (s.advanceRow).panel = s.panel := by unfold State.advanceRow; split <;> rfl
@[simp] theorem State.advanceRow_ioErr (s : State) : (s.advanceRow).ioErr = s.ioErr := by unfold State.advanceRow; split <;> rfl
@[simp] theorem State.advanceRow_schedule (s : State) : (s.advanceRow).schedule = s.schedule := by unfold State.advanceRow; split <;> rfl
@[simp] theorem State.advanceRow_patience (s : State) : (s.advanceRow).patience = s.patience := by unfold State.advanceRow; split <;> rfl
@[simp] theorem State.advanceRow_cmds (s : State) : (s.advanceRow).cmds = s.cmds := by unfold State.advanceRow; split <;> rfl
@[simp] theorem State.advanceRow_draws (s : State) : (s.advanceRow).draws = s.draws := by unfold State.advanceRow; split <;> rfl
@[simp] theorem State.advanceRow_trace (s : State) : (s.advanceRow).trace = s.trace := by unfold State.advanceRow; split <;> rfl
/-! ### `State.assertReset` -/
@[simp] theorem State.assertReset_cfg (s : State) : (s.assertReset).cfg = s.cfg := rfl
@[simp] theorem State.assertReset_fb (s : State) : (s.assertReset).fb = [] := rfl
@[simp] theorem State.assertReset_brightness (s : State) : (s.assertReset).brightness = s.cfg.brightnessInit := rfl
@[simp] theorem State.assertReset_running (s : State) : (s.assertReset).running = false := rfl
@[simp] theorem State.assertReset_stopReq (s : State) : (s.assertReset).stopReq = false := rfl
@[simp] theorem State.assertReset_status (s : State) : (s.assertReset).status = 0#2 := rfl
@[simp] theorem State.assertReset_phase (s : State) : (s.assertReset).phase = .idle := rfl
@[simp] theorem State.assertReset_row (s : State) : (s.assertReset).row = 0#5 := rfl
@[simp] theorem State.assertReset_col (s : State) : (s.assertReset).col = 0#6 := rfl
@[simp] theorem State.assertReset_rowbuf (s : State) : (s.assertReset).rowbuf = Vector.replicate 64 0#8 := rfl
@[simp] theorem State.assertReset_pixTmp (s : State) : (s.assertReset).pixTmp = 0#3 := rfl
@[simp] theorem State.assertReset_brightLat (s : State) : (s.assertReset).brightLat = 0#8 := rfl
@[simp] theorem State.assertReset_dwellCnt (s : State) : (s.assertReset).dwellCnt = 0 := rfl
@[simp] theorem State.assertReset_pinData (s : State) : (s.assertReset).pinData = 0#6 := rfl
@[simp] theorem State.assertReset_pinClk (s : State) : (s.assertReset).pinClk = false := rfl
@[simp] theorem State.assertReset_pinLat (s : State) : (s.assertReset).pinLat = false := rfl
@[simp] theorem State.assertReset_pinOeN (s : State) : (s.assertReset).pinOeN = true := rfl
@[simp] theorem State.assertReset_pinAddr (s : State) : (s.assertReset).pinAddr = 0#5 := rfl
@[simp] theorem State.assertReset_hc (s : State) : (s.assertReset).hc = .idle := rfl
@[simp] theorem State.assertReset_panel (s : State) : (s.assertReset).panel = { s.panel with prevClk := false, prevLat := false } := rfl
@[simp] theorem State.assertReset_ioErr (s : State) : (s.assertReset).ioErr = s.ioErr := rfl
@[simp] theorem State.assertReset_schedule (s : State) : (s.assertReset).schedule = s.schedule := rfl
@[simp] theorem State.assertReset_patience (s : State) : (s.assertReset).patience = s.patience := rfl
@[simp] theorem State.assertReset_cmds (s : State) : (s.assertReset).cmds = s.cmds := rfl
@[simp] theorem State.assertReset_draws (s : State) : (s.assertReset).draws = s.draws := rfl
@[simp] theorem State.assertReset_trace (s : State) : (s.assertReset).trace = s.trace := rfl
/-! ### `State.nextTurn` -/
@[simp] theorem State.nextTurn_cfg (s : State) : s.nextTurn.2.cfg = s.cfg := by unfold State.nextTurn; split <;> rfl
@[simp] theorem State.nextTurn_fb (s : State) : s.nextTurn.2.fb = s.fb := by unfold State.nextTurn; split <;> rfl
@[simp] theorem State.nextTurn_brightness (s : State) : s.nextTurn.2.brightness = s.brightness := by unfold State.nextTurn; split <;> rfl
@[simp] theorem State.nextTurn_running (s : State) : s.nextTurn.2.running = s.running := by unfold State.nextTurn; split <;> rfl
@[simp] theorem State.nextTurn_stopReq (s : State) : s.nextTurn.2.stopReq = s.stopReq := by unfold State.nextTurn; split <;> rfl
@[simp] theorem State.nextTurn_status (s : State) : s.nextTurn.2.status = s.status := by unfold State.nextTurn; split <;> rfl
@[simp] theorem State.nextTurn_phase (s : State) : s.nextTurn.2.phase = s.phase := by unfold State.nextTurn; split <;> rfl
@[simp] theorem State.nextTurn_row (s : State) : s.nextTurn.2.row = s.row := by unfold State.nextTurn; split <;> rfl
@[simp] theorem State.nextTurn_col (s : State) : s.nextTurn.2.col = s.col := by unfold State.nextTurn; split <;> rfl
@[simp] theorem State.nextTurn_rowbuf (s : State) : s.nextTurn.2.rowbuf = s.rowbuf := by unfold State.nextTurn; split <;> rfl
@[simp] theorem State.nextTurn_pixTmp (s : State) : s.nextTurn.2.pixTmp = s.pixTmp := by unfold State.nextTurn; split <;> rfl
@[simp] theorem State.nextTurn_brightLat (s : State) : s.nextTurn.2.brightLat = s.brightLat := by unfold State.nextTurn; split <;> rfl
@[simp] theorem State.nextTurn_dwellCnt (s : State) : s.nextTurn.2.dwellCnt = s.dwellCnt := by unfold State.nextTurn; split <;> rfl
@[simp] theorem State.nextTurn_pinData (s : State) : s.nextTurn.2.pinData = s.pinData := by unfold State.nextTurn; split <;> rfl
@[simp] theorem State.nextTurn_pinClk (s : State) : s.nextTurn.2.pinClk = s.pinClk := by unfold State.nextTurn; split <;> rfl
@[simp] theorem State.nextTurn_pinLat (s : State) : s.nextTurn.2.pinLat = s.pinLat := by unfold State.nextTurn; split <;> rfl
@[simp] theorem State.nextTurn_pinOeN (s : State) : s.nextTurn.2.pinOeN = s.pinOeN := by unfold State.nextTurn; split <;> rfl
@[simp] theorem State.nextTurn_pinAddr (s : State) : s.nextTurn.2.pinAddr = s.pinAddr := by unfold State.nextTurn; split <;> rfl
@[simp] theorem State.nextTurn_hc (s : State) : s.nextTurn.2.hc = s.hc := by unfold State.nextTurn; split <;> rfl
@[simp] theorem State.nextTurn_panel (s : State) : s.nextTurn.2.panel = s.panel := by unfold State.nextTurn; split <;> rfl
@[simp] theorem State.nextTurn_ioErr (s : State) : s.nextTurn.2.ioErr = s.ioErr := by unfold State.nextTurn; split <;> rfl
@[simp] theorem State.nextTurn_cmds (s : State) : s.nextTurn.2.cmds = s.cmds := by unfold State.nextTurn; split <;> rfl
@[simp] theorem State.nextTurn_trace (s : State) : s.nextTurn.2.trace = s.trace := by unfold State.nextTurn; split <;> rfl
/-! ### `State.nextWord` -/
@[simp] theorem State.nextWord_cfg (s : State) : s.nextWord.2.cfg = s.cfg := by unfold State.nextWord; split <;> rfl
@[simp] theorem State.nextWord_fb (s : State) : s.nextWord.2.fb = s.fb := by unfold State.nextWord; split <;> rfl
@[simp] theorem State.nextWord_brightness (s : State) : s.nextWord.2.brightness = s.brightness := by unfold State.nextWord; split <;> rfl
@[simp] theorem State.nextWord_running (s : State) : s.nextWord.2.running = s.running := by unfold State.nextWord; split <;> rfl
@[simp] theorem State.nextWord_stopReq (s : State) : s.nextWord.2.stopReq = s.stopReq := by unfold State.nextWord; split <;> rfl
@[simp] theorem State.nextWord_status (s : State) : s.nextWord.2.status = s.status := by unfold State.nextWord; split <;> rfl
@[simp] theorem State.nextWord_phase (s : State) : s.nextWord.2.phase = s.phase := by unfold State.nextWord; split <;> rfl
@[simp] theorem State.nextWord_row (s : State) : s.nextWord.2.row = s.row := by unfold State.nextWord; split <;> rfl
@[simp] theorem State.nextWord_col (s : State) : s.nextWord.2.col = s.col := by unfold State.nextWord; split <;> rfl
@[simp] theorem State.nextWord_rowbuf (s : State) : s.nextWord.2.rowbuf = s.rowbuf := by unfold State.nextWord; split <;> rfl
@[simp] theorem State.nextWord_pixTmp (s : State) : s.nextWord.2.pixTmp = s.pixTmp := by unfold State.nextWord; split <;> rfl
@[simp] theorem State.nextWord_brightLat (s : State) : s.nextWord.2.brightLat = s.brightLat := by unfold State.nextWord; split <;> rfl
@[simp] theorem State.nextWord_dwellCnt (s : State) : s.nextWord.2.dwellCnt = s.dwellCnt := by unfold State.nextWord; split <;> rfl
@[simp] theorem State.nextWord_pinData (s : State) : s.nextWord.2.pinData = s.pinData := by unfold State.nextWord; split <;> rfl
@[simp] theorem State.nextWord_pinClk (s : State) : s.nextWord.2.pinClk = s.pinClk := by unfold State.nextWord; split <;> rfl
@[simp] theorem State.nextWord_pinLat (s : State) : s.nextWord.2.pinLat = s.pinLat := by unfold State.nextWord; split <;> rfl
@[simp] theorem State.nextWord_pinOeN (s : State) : s.nextWord.2.pinOeN = s.pinOeN := by unfold State.nextWord; split <;> rfl
@[simp] theorem State.nextWord_pinAddr (s : State) : s.nextWord.2.pinAddr = s.pinAddr := by unfold State.nextWord; split <;> rfl
@[simp] theorem State.nextWord_hc (s : State) : s.nextWord.2.hc = s.hc := by unfold State.nextWord; split <;> rfl
@[simp] theorem State.nextWord_panel (s : State) : s.nextWord.2.panel = s.panel := by unfold State.nextWord; split <;> rfl
@[simp] theorem State.nextWord_ioErr (s : State) : s.nextWord.2.ioErr = s.ioErr := by unfold State.nextWord; split <;> rfl
@[simp] theorem State.nextWord_schedule (s : State) : s.nextWord.2.schedule = s.schedule := by unfold State.nextWord; split <;> rfl
@[simp] theorem State.nextWord_patience (s : State) : s.nextWord.2.patience = s.patience := by unfold State.nextWord; split <;> rfl
@[simp] theorem State.nextWord_trace (s : State) : s.nextWord.2.trace = s.trace := by unfold State.nextWord; split <;> rfl
end Sys2Proof.Machine
end

