-- ==== Sys2Proof/Laws/Ops.lean ====
section
/-! SUPPORT. One lemma for each shared operation that says what it can do. -/

namespace Sys2Proof.Machine

open Sys2Proof

/-! ### Pin writes -/

/-- A write that succeeds drives the pins and does nothing else. -/
theorem State.pinWrite_ok {s : State} (w : PinWrite) (h : s.ioFails = false) :
    s.pinWrite w = s.drive w := by simp [State.pinWrite, h]

/-- A write that fails drives `any` onto the pin group and raises PeripheralFault. -/
theorem State.pinWrite_fails {s : State} (w : PinWrite) (h : s.ioFails = true) :
    s.pinWrite w =
      ((s.drive (w.withBits (Config.anyBits s.draws))).drawn).raise .peripheralFault := by
  simp [State.pinWrite, h]

theorem State.ioFails_congr (s t : State) (h : t.cfg = s.cfg) (h' : t.ioErr = s.ioErr) :
    t.ioFails = s.ioFails := by simp [State.ioFails, h, h']

/-- Driving a pin group puts its level on the pins. -/
theorem State.drive_onPins (s : State) (w : PinWrite) : (s.drive w).onPins w := by cases w <;> rfl

@[simp] theorem State.drive_trace (s : State) (w : PinWrite) :
    (s.drive w).trace = .pin w :: s.trace := by cases w <;> rfl

/-- Driving a pin group shows the panel the levels that stand on the pins then. -/
@[simp] theorem State.drive_panel (s : State) (w : PinWrite) :
    (s.drive w).panel =
      s.panel.observe (s.drive w).pinData (s.drive w).pinClk (s.drive w).pinLat := by
  cases w <;> rfl

/-- What `PinWrite` does to the pins, the observer, `status` and the outputs (41_row_scan.md R114,
60_exceptions.md R180). -/
theorem State.pinWrite_spec (s : State) (w : PinWrite) : PinWritten s (s.pinWrite w) w := by
  cases h : s.ioFails
  · rw [State.pinWrite_ok w h]
    exact ⟨fun _ => ⟨State.drive_onPins s w, by simp, by simp⟩, fun h' => by simp [h] at h',
      by cases w <;> exact ⟨rfl, rfl, rfl, rfl⟩, by simp⟩
  · rw [State.pinWrite_fails w h]
    refine ⟨fun h' => by simp [h] at h', fun _ => ⟨Config.anyBits s.draws, ?_⟩, ?_, ?_⟩
    · exact ⟨by cases w <;> rfl, by cases w <;> rfl, by cases w <;> rfl⟩
    · cases w <;>
        simp [OtherPinsSame, PinWrite.withBits, State.drive, State.drawn, State.raise, State.emit, State.setPf]
    · cases w <;> rfl

/-- `PinWrite` changes nothing but the pins, the observer, `status`, the outputs and the count of free
values. -/
theorem State.pinWrite_frame (s : State) (w : PinWrite) : s.withPinsOf (s.pinWrite w) = s.pinWrite w := by
  unfold State.pinWrite
  split <;> cases w <;> rfl

/-- The panel's previous levels are the pins' levels after a pin write, if they were before it. -/
theorem State.pinWrite_panelOk (s : State) (w : PinWrite) : PanelOk (s.pinWrite w) := by
  unfold State.pinWrite
  split <;> cases w <;> exact ⟨rfl, rfl⟩

/-! ### Exceptions -/

@[simp] theorem State.raise_boundsViolation (s : State) : s.raise .boundsViolation = s := rfl

@[simp] theorem State.raise_lifecycleMisuse (s : State) : s.raise .lifecycleMisuse = s := rfl

/-- IllegalCommand sets IC and gives the error response (60_exceptions.md R184). -/
theorem State.raise_illegalCommand (s : State) :
    s.raise .illegalCommand =
      { s with
        status := s.status ||| 0b10#2, trace := .response (rspError .illegalCommand) :: s.trace } := rfl

/-- PeripheralFault sets PF and emits one event (60_exceptions.md R180). -/
theorem State.raise_peripheralFault (s : State) :
    s.raise .peripheralFault =
      { s with
        status := s.status ||| 0b01#2
        trace := .peripheralFault 0x02#8 s.phase s.row s.col :: s.trace } := rfl

/-! ### Pixels -/

theorem inBounds_iff (x y : Int) : inBounds x y = true ↔ 0 ≤ x ∧ x < 64 ∧ 0 ≤ y ∧ y < 64 := by
  simp [inBounds, and_assoc]

/-- In bounds the pixel is written. -/
theorem State.putPixel_in {s : State} {x y : Int} (r g b : Byte) (h : inBounds x y = true) :
    s.putPixel x y r g b = s.pixWrite x.toNat y.toNat r g b := by simp [State.putPixel, h]

/-- Out of bounds nothing changes. -/
theorem State.putPixel_out {s : State} {x y : Int} (r g b : Byte) (h : inBounds x y = false) :
    s.putPixel x y r g b = s := by simp [State.putPixel, h]

/-- A pixel read after a pixel write: the colour written at that pixel, the old colour elsewhere. -/
theorem State.pixRead_pixWrite (s : State) {x y x' y' : Nat} (r g b : Byte) (hx : x < 64)
    (hx' : x' < 64) :
    (s.pixWrite x y r g b).pixRead x' y' = if x' = x ∧ y' = y then (r, g, b) else s.pixRead x' y' := by
  unfold State.pixRead
  split
  · next h => rw [h.1, h.2]; simp
  · next h =>
    simp only [State.pixWrite_fb]
    exact Memory.read3_write3_other _ _ _ _ (pixOff_apart hx' hx h)

/-- A pixel write inside the panel keeps the canonical form. -/
theorem State.pixWrite_memoryOk {s : State} {x y : Nat} (r g b : Byte) (h : MemoryOk s) (hx : x < 64)
    (hy : y < 64) : MemoryOk (s.pixWrite x y r g b) :=
  Memory.wf_write3 r g b h (pixOff_lt hx hy)

/-- `putPixel` keeps the canonical form at any coordinates. -/
theorem State.putPixel_memoryOk {s : State} (x y : Int) (r g b : Byte) (h : MemoryOk s) :
    MemoryOk (s.putPixel x y r g b) := by
  cases hb : inBounds x y
  · rw [State.putPixel_out r g b hb]; exact h
  · rw [State.putPixel_in r g b hb]
    obtain ⟨_, _, _, _⟩ := (inBounds_iff x y).1 hb
    exact State.pixWrite_memoryOk r g b h (by omega) (by omega)

/-! ### The long commands -/

/-- A CLEAR step changes nothing but the framebuffer, `hc` and the outputs. -/
theorem State.clearStep_frame (s : State) (i : Fin 4096) (r g b : Byte) :
    { s.clearStep i r g b with fb := s.fb, hc := s.hc, trace := s.trace } = s := by
  unfold State.clearStep; split <;> rfl

/-- A CLEAR step writes pixel `i`. -/
theorem State.clearStep_fb (s : State) (i : Fin 4096) (r g b : Byte) :
    (s.clearStep i r g b).fb = Memory.write3 s.fb (pixOff (i.val % 64) (i.val / 64)) r g b := by
  unfold State.clearStep; split <;> rfl

/-- A CLEAR step goes on to the next pixel, or ends with the last one. -/
theorem State.clearStep_hc (s : State) (i : Fin 4096) (r g b : Byte) :
    (s.clearStep i r g b).hc =
      if h : i.val < 4095 then .clearing ⟨i.val + 1, by omega⟩ r g b else .idle := by
  unfold State.clearStep; split <;> rfl

/-- A CLEAR step responds exactly when it ends the command. -/
theorem State.clearStep_trace (s : State) (i : Fin 4096) (r g b : Byte) :
    (s.clearStep i r g b).trace = if i.val < 4095 then s.trace else .response rspDone :: s.trace := by
  unfold State.clearStep; split <;> rfl

/-- A CLEAR step keeps the canonical form. -/
theorem State.clearStep_memoryOk {s : State} (i : Fin 4096) (r g b : Byte) (h : MemoryOk s) :
    MemoryOk (s.clearStep i r g b) := by
  show Memory.wf _ = true
  rw [State.clearStep_fb]
  exact Memory.wf_write3 r g b h (pixOff_lt (by omega) (by omega))

/-- A FILLRECT step changes nothing but the framebuffer, `hc` and the outputs. -/
theorem State.fillStep_frame (s : State) (dx dy : Nat) (x y w h : Int) (r g b : Byte) :
    { s.fillStep dx dy x y w h r g b with fb := s.fb, hc := s.hc, trace := s.trace } = s := by
  unfold State.fillStep State.putPixel; split_ifs <;> rfl

/-- A FILLRECT step writes or drops the pixel `(x + dx, y + dy)`. -/
theorem State.fillStep_fb (s : State) (dx dy : Nat) (x y w h : Int) (r g b : Byte) :
    (s.fillStep dx dy x y w h r g b).fb = (s.putPixel (x + dx) (y + dy) r g b).fb := by
  unfold State.fillStep; split_ifs <;> rfl

/-- A FILLRECT step goes on along the row, then to the next row, or ends with the last pixel. -/
theorem State.fillStep_hc (s : State) (dx dy : Nat) (x y w h : Int) (r g b : Byte) :
    (s.fillStep dx dy x y w h r g b).hc =
      if (dx : Int) + 1 < w then .filling (dx + 1) dy x y w h r g b
      else if (dy : Int) + 1 < h then .filling 0 (dy + 1) x y w h r g b else .idle := by
  unfold State.fillStep; split_ifs <;> rfl

/-- A FILLRECT step responds exactly when it ends the command. -/
theorem State.fillStep_trace (s : State) (dx dy : Nat) (x y w h : Int) (r g b : Byte) :
    (s.fillStep dx dy x y w h r g b).trace =
      if (dx : Int) + 1 < w ∨ (dy : Int) + 1 < h then s.trace else .response rspDone :: s.trace := by
  unfold State.fillStep; split_ifs <;> first | (exfalso; omega) | simp

/-- A FILLRECT step keeps the canonical form. -/
theorem State.fillStep_memoryOk {s : State} (dx dy : Nat) (x y w h : Int) (r g b : Byte)
    (hm : MemoryOk s) : MemoryOk (s.fillStep dx dy x y w h r g b) := by
  show Memory.wf _ = true
  rw [State.fillStep_fb]
  exact State.putPixel_memoryOk _ _ r g b hm

/-! ### Turns and words -/

theorem State.nextTurn_cons {s : State} {t : Turn} {rest : List Turn} (h : s.schedule = t :: rest) :
    s.nextTurn = (t, { s with schedule := rest }) := by simp [State.nextTurn, h]

/-- With no turn listed and no patience left the turn is the engine's, and the next gap is drawn. -/
theorem State.nextTurn_forced {s : State} (h : s.schedule = []) (hp : s.patience = 0) :
    s.nextTurn =
      (.engine (Config.ioLevel s.draws), { s.drawn with patience := Config.patience s.draws }) := by
  simp [State.nextTurn, h, hp]

/-- With no turn listed and some patience left the turn is a free value and uses up one of it. -/
theorem State.nextTurn_free {s : State} {k : Nat} (h : s.schedule = []) (hp : s.patience = k + 1) :
    s.nextTurn = (Config.turn s.draws, { s.drawn with patience := k }) := by
  simp [State.nextTurn, h, hp]

theorem State.nextWord_cons {s : State} {cw : CommandWord} {rest : List CommandWord}
    (h : s.cmds = cw :: rest) : s.nextWord = (some cw, { s with cmds := rest }) := by
  simp [State.nextWord, h]

end Sys2Proof.Machine
end

