-- ==== Sys2Proof/Laws/PerInstr.lean ====
section
/-! SUPPORT. A fact about every instruction's encoding: it carries the opcode table's bits. -/

namespace Sys2Proof.Laws

open Sys2Proof

/-- The opcode table's row: the value of the bits under its mask, and whether the row is a command (mask
FF at bits 95:88) or a phase (mask F). -/
def tableRow (i : Instr) : Bool × Nat :=
  match i with
  | .setpixel _ _ _ _ _ => (true, 0x01)
  | .getpixel _ _ => (true, 0x02)
  | .clear _ _ _ => (true, 0x03)
  | .fillrect _ _ _ _ _ _ _ => (true, 0x04)
  | .setbright _ => (true, 0x05)
  | .present => (true, 0x06)
  | .start => (true, 0x07)
  | .stop => (true, 0x08)
  | .getstatus => (true, 0x09)
  | .idle => (false, 0x0)
  | .rowCheck => (false, 0x1)
  | .blank => (false, 0x2)
  | .latchb => (false, 0x3)
  | .packU => (false, 0x4)
  | .packL => (false, 0x5)
  | .data => (false, 0x6)
  | .clkHi => (false, 0x7)
  | .clkLo => (false, 0x8)
  | .addr => (false, 0x9)
  | .latHi => (false, 0xA)
  | .latLo => (false, 0xB)
  | .oeOn => (false, 0xC)
  | .dwell => (false, 0xD)
  | .frameEnd => (false, 0xE)
  | .exit => (false, 0xF)

/-- The code has the row's bits under the row's mask. -/
def matchesRow (c : Code) (row : Bool × Nat) : Prop :=
  match c with
  | .command cw => row.1 = true ∧ (cwOp cw).toNat = row.2
  | .phase p => row.1 = false ∧ p.toNat = row.2

/-- The encoding of `i` has the bits the opcode table fixes for its row (30_encoding.md R77, R82). -/
def TableMatch.Statement (i : Instr) : Prop := matchesRow (encode i) (tableRow i)

theorem TableMatch.setpixel (x y : Int) (r g b : Byte) : TableMatch.Statement (.setpixel x y r g b) := by
  simp [TableMatch.Statement, encode, matchesRow, tableRow]

theorem TableMatch.getpixel (x y : Int) : TableMatch.Statement (.getpixel x y) := by
  simp [TableMatch.Statement, encode, matchesRow, tableRow]

theorem TableMatch.clear (r g b : Byte) : TableMatch.Statement (.clear r g b) := by
  simp [TableMatch.Statement, encode, matchesRow, tableRow]

theorem TableMatch.fillrect (x y w h : Int) (r g b : Byte) : TableMatch.Statement (.fillrect x y w h r g b) := by
  simp [TableMatch.Statement, encode, matchesRow, tableRow]

theorem TableMatch.setbright (v : Int) : TableMatch.Statement (.setbright v) := by
  simp [TableMatch.Statement, encode, matchesRow, tableRow]

theorem TableMatch.present : TableMatch.Statement .present := by
  simp [TableMatch.Statement, encode, matchesRow, tableRow]

theorem TableMatch.start : TableMatch.Statement .start := by
  simp [TableMatch.Statement, encode, matchesRow, tableRow]

theorem TableMatch.stop : TableMatch.Statement .stop := by
  simp [TableMatch.Statement, encode, matchesRow, tableRow]

theorem TableMatch.getstatus : TableMatch.Statement .getstatus := by
  simp [TableMatch.Statement, encode, matchesRow, tableRow]

theorem TableMatch.idle : TableMatch.Statement .idle := ⟨rfl, rfl⟩

theorem TableMatch.rowCheck : TableMatch.Statement .rowCheck := ⟨rfl, rfl⟩

theorem TableMatch.blank : TableMatch.Statement .blank := ⟨rfl, rfl⟩

theorem TableMatch.latchb : TableMatch.Statement .latchb := ⟨rfl, rfl⟩

theorem TableMatch.packU : TableMatch.Statement .packU := ⟨rfl, rfl⟩

theorem TableMatch.packL : TableMatch.Statement .packL := ⟨rfl, rfl⟩

theorem TableMatch.data : TableMatch.Statement .data := ⟨rfl, rfl⟩

theorem TableMatch.clkHi : TableMatch.Statement .clkHi := ⟨rfl, rfl⟩

theorem TableMatch.clkLo : TableMatch.Statement .clkLo := ⟨rfl, rfl⟩

theorem TableMatch.addr : TableMatch.Statement .addr := ⟨rfl, rfl⟩

theorem TableMatch.latHi : TableMatch.Statement .latHi := ⟨rfl, rfl⟩

theorem TableMatch.latLo : TableMatch.Statement .latLo := ⟨rfl, rfl⟩

theorem TableMatch.oeOn : TableMatch.Statement .oeOn := ⟨rfl, rfl⟩

theorem TableMatch.dwell : TableMatch.Statement .dwell := ⟨rfl, rfl⟩

theorem TableMatch.frameEnd : TableMatch.Statement .frameEnd := ⟨rfl, rfl⟩

theorem TableMatch.exit : TableMatch.Statement .exit := ⟨rfl, rfl⟩

end Sys2Proof.Laws
end

