-- ==== Sys2Proof/Laws/Step.lean ====
section
/-! SUPPORT. What one step can be. -/

namespace Sys2Proof.Machine

open Sys2Proof

/-- A step whose turn is listed makes that turn. -/
theorem step_cons {s : State} {t : Turn} {rest : List Turn} (h : s.schedule = t :: rest) :
    step s = takeTurn t { s with schedule := rest } := by
  unfold step; rw [State.nextTurn_cons h]

/-- A step is an engine step, a host step or the reset move, from the state in which the turn has been
taken. -/
theorem step_cases {s t : State} (h : step s = .next t) :
    (∃ io, s.nextTurn.1 = .engine io ∧ engineStep io s.nextTurn.2 = .next t) ∨
    (s.nextTurn.1 = .host ∧ hostStep s.nextTurn.2 = .next t) ∨
    (s.nextTurn.1 = .reset ∧ t = s.nextTurn.2.assertReset) := by
  unfold step takeTurn at h
  split at h
  · next io hio => exact .inl ⟨io, hio, h⟩
  · next hh => exact .inr (.inl ⟨hh, h⟩)
  · next hr => cases h; exact .inr (.inr ⟨hr, rfl⟩)

/-- A host step: no word is presented; a word decodes and runs; a word is no command; or the command in
progress goes on. -/
theorem hostStep_cases {s t : State} (h : hostStep s = .next t) :
    (s.hc = .idle ∧ s.nextWord.1 = none ∧ t = s.nextWord.2) ∨
    (s.hc = .idle ∧ ∃ cw i, s.nextWord.1 = some cw ∧ decodeCommand cw = .ok i ∧
      exec i s.nextWord.2 = .next t) ∨
    (s.hc = .idle ∧ ∃ cw e, s.nextWord.1 = some cw ∧ decodeCommand cw = .error e ∧
      t = s.nextWord.2.raise .illegalCommand) ∨
    (∃ i r g b, s.hc = .clearing i r g b ∧ t = s.clearStep i r g b) ∨
    (∃ dx dy x y w k r g b, s.hc = .filling dx dy x y w k r g b ∧ t = s.fillStep dx dy x y w k r g b) ∨
    (s.hc = .stopping ∧ t = s.stopStep) := by
  unfold hostStep at h
  split at h
  · next hi =>
    unfold acceptWord at h
    split at h
    · next hn => cases h; exact .inl ⟨hi, hn, rfl⟩
    · next cw hw =>
      split at h
      · next i hd => exact .inr (.inl ⟨hi, cw, i, hw, hd, h⟩)
      · next e hd => cases h; exact .inr (.inr (.inl ⟨hi, cw, e, hw, hd, rfl⟩))
  · next i r g b hc => cases h; exact .inr (.inr (.inr (.inl ⟨i, r, g, b, hc, rfl⟩)))
  · next dx dy x y w k r g b hc =>
    cases h; exact .inr (.inr (.inr (.inr (.inl ⟨dx, dy, x, y, w, k, r, g, b, hc, rfl⟩))))
  · next hc => cases h; exact .inr (.inr (.inr (.inr (.inr ⟨hc, rfl⟩))))

/-! ### What no instruction touches, and that every step answers -/

/-- Every instruction answers a next state in every state (60_exceptions.md R187). -/
theorem exec_total (i : Instr) (s : State) : ∃ t, exec i s = .next t := by
  cases i <;> exact ⟨_, rfl⟩

/-- Every step answers a next state. -/
theorem step_total (s : State) : ∃ t, step s = .next t := by
  unfold step takeTurn
  split
  · exact exec_total _ _
  · unfold hostStep
    split
    · unfold acceptWord
      split
      · exact ⟨_, rfl⟩
      · split
        · exact exec_total _ _
        · exact ⟨_, rfl⟩
    · exact ⟨_, rfl⟩
    · exact ⟨_, rfl⟩
    · exact ⟨_, rfl⟩
  · exact ⟨_, rfl⟩

/-- No instruction touches the turns to come, nor the gap to the engine's next forced turn. -/
theorem exec_turns {i : Instr} {s t : State} (h : exec i s = .next t) :
    t.schedule = s.schedule ∧ t.patience = s.patience := by
  cases i
  case setpixel => cases h; simp
  case getpixel => cases h; split <;> simp
  case clear => cases h; unfold State.clearStep; split <;> simp
  case fillrect => cases h; unfold State.fillStep; split_ifs <;> simp
  case start => cases h; split <;> simp
  case stop => cases h; split <;> simp
  case dwell => cases h; split <;> simp
  all_goals cases h; simp

/-- A step uses up its turn and touches the turns to come in no other way. -/
theorem step_turns {s t : State} (h : step s = .next t) :
    t.schedule = s.nextTurn.2.schedule ∧ t.patience = s.nextTurn.2.patience := by
  rcases step_cases h with ⟨io, -, h⟩ | ⟨-, h⟩ | ⟨-, rfl⟩
  · exact exec_turns (s := { s.nextTurn.2 with ioErr := io }) h
  · rcases hostStep_cases h with ⟨-, -, rfl⟩ | ⟨-, cw, i, -, -, h⟩ | ⟨-, cw, e, -, -, rfl⟩ |
      ⟨i, r, g, b, -, rfl⟩ | ⟨dx, dy, x, y, w, k, r, g, b, -, rfl⟩ | ⟨-, rfl⟩
    · simp
    · simpa using exec_turns h
    · simp
    · unfold State.clearStep; split <;> simp
    · unfold State.fillStep; split_ifs <;> simp
    · unfold State.stopStep; split <;> simp
  · simp

/-! ### Runs -/

theorem runOf_succ (M : Host.Core) (n : Nat) {s t : M.State} (h : M.step s = .next t) :
    M.run (n + 1) s = M.run n t := by simp [Host.Core.run, h]

theorem runOf_add (M : Host.Core) (m n : Nat) {s t : M.State} (h : M.run m s = .next t) :
    M.run (m + n) s = M.run n t := by
  induction m generalizing s with
  | zero => cases h; rw [Nat.zero_add]
  | succ m ih =>
    rw [Nat.add_right_comm]
    cases hs : M.step s with
    | next s' => rw [runOf_succ M m hs] at h; rw [runOf_succ M (m + n) hs]; exact ih h
    | fault r => simp [Host.Core.run, hs] at h
    | refused r => simp [Host.Core.run, hs] at h

/-- A run of `n + 1` steps is a step and a run of `n`. -/
theorem run_succ (n : Nat) {s t : State} (h : step s = .next t) :
    Host.Core.run core (n + 1) s = Host.Core.run core n t := runOf_succ core n h

/-- Runs compose. -/
theorem run_add (m n : Nat) {s t : State} (h : Host.Core.run core m s = .next t) :
    Host.Core.run core (m + n) s = Host.Core.run core n t := runOf_add core m n h

end Sys2Proof.Machine
end

