-- ==== Sys2Proof/Tests/Slice0.lean ====
section
/-! SUPPORT. Tests of the model against 95_test_vectors.md and the encodings of 30_encoding.md, and for
every statement with hypotheses a witness that meets them. -/

namespace Sys2Proof.Tests

open Sys2Proof Sys2Proof.Machine

/-! ### A small state -/

/-- A valid configuration with DWELL_TICKS = 4, the value of 95_test_vectors.md 2.5. -/
def cfg4 : Configuration where
  width := 64
  height := 64
  pins := Vector.ofFn fun k => some k.val
  dwellTicks := 4
  brightnessInit := 255#8
  hasIoErr := true

/-- The reset state of that configuration, with a panel of zeros. -/
def base : State :=
  State.resetOf cfg4
    { sr := Vector.replicate 64 0#6, outreg := Vector.replicate 64 0#6, prevClk := false, prevLat := false }

/-- A running engine in a phase. -/
def at' (p : Phase) : State := { base with running := true, phase := p }

/-- What is read off the next state of an outcome. -/
def look {α : Type} (o : Host.Outcome State Fault Refusal) (f : State → α) : Option α :=
  match o with
  | .next t => some (f t)
  | .fault _ => none
  | .refused _ => none

/-! ### Well-formedness: each check refuses a term (30_encoding.md R76) -/

theorem test_wf_setpixel_x : Instr.wf (.setpixel 32768 0 0#8 0#8 0#8) = false := by decide
theorem test_wf_setpixel_y : Instr.wf (.setpixel 0 (-32769) 0#8 0#8 0#8) = false := by decide
theorem test_wf_getpixel_x : Instr.wf (.getpixel (-32769) 0) = false := by decide
theorem test_wf_getpixel_y : Instr.wf (.getpixel 0 32768) = false := by decide
theorem test_wf_fillrect_x : Instr.wf (.fillrect 32768 0 1 1 0#8 0#8 0#8) = false := by decide
theorem test_wf_fillrect_y : Instr.wf (.fillrect 0 32768 1 1 0#8 0#8 0#8) = false := by decide
theorem test_wf_fillrect_w : Instr.wf (.fillrect 0 0 32768 1 0#8 0#8 0#8) = false := by decide
theorem test_wf_fillrect_h : Instr.wf (.fillrect 0 0 1 (-32769) 0#8 0#8 0#8) = false := by decide
theorem test_wf_setbright : Instr.wf (.setbright 32768) = false := by decide
theorem test_wf_extremes : Instr.wf (.setpixel (-32768) 32767 1#8 1#8 1#8) = true := by decide

/-! ### Decoding: words written out from the encoding (R75, R77, R82, 95_test_vectors.md 2.1) -/

theorem test_decode_setpixel :
    decodeCommand 0x010003000500000000FF8000#96 = .ok (.setpixel 3 5 255#8 128#8 0#8) := by decide
theorem test_decode_setpixel_extremes :
    decodeCommand 0x0180007FFF00000000010101#96 = .ok (.setpixel (-32768) 32767 1#8 1#8 1#8) := by decide
theorem test_decode_setpixel_ignores_w_h :
    decodeCommand 0x0100030005FFFF1234FF8000#96 = .ok (.setpixel 3 5 255#8 128#8 0#8) := by decide
theorem test_decode_getpixel :
    decodeCommand 0x020003000500000000000000#96 = .ok (.getpixel 3 5) := by decide
theorem test_decode_clear :
    decodeCommand 0x030000000000000000010203#96 = .ok (.clear 1#8 2#8 3#8) := by decide
theorem test_decode_fillrect :
    decodeCommand 0x04FFFE001E00040004FFFF00#96 = .ok (.fillrect (-2) 30 4 4 255#8 255#8 0#8) := by decide
theorem test_decode_fillrect_negative_size :
    decodeCommand 0x0400000000FFFD0005010101#96 = .ok (.fillrect 0 0 (-3) 5 1#8 1#8 1#8) := by decide
theorem test_decode_setbright_negative :
    decodeCommand 0x058000000000000000000000#96 = .ok (.setbright (-32768)) := by decide
theorem test_decode_setbright_ignores_the_rest :
    decodeCommand 0x0500A4FFFFFFFFFFFFFFFFFF#96 = .ok (.setbright 164) := by decide
theorem test_decode_present : decodeCommand 0x060000000000000000000000#96 = .ok .present := by decide
theorem test_decode_start : decodeCommand 0x070000000000000000000000#96 = .ok .start := by decide
theorem test_decode_stop : decodeCommand 0x080000000000000000000000#96 = .ok .stop := by decide
theorem test_decode_getstatus : decodeCommand 0x090000000000000000000000#96 = .ok .getstatus := by decide
theorem test_decode_illegal_00 :
    decodeCommand 0x000000000000000000000000#96 = .error (.illegalCommand 0x00#8) := by decide
theorem test_decode_illegal_0A :
    decodeCommand 0x0A0001000200030004050607#96 = .error (.illegalCommand 0x0A#8) := by decide
theorem test_decode_illegal_FF :
    decodeCommand 0xFF0000000000000000000000#96 = .error (.illegalCommand 0xFF#8) := by decide
theorem test_decode_phases :
    (List.range 16).map (fun k => decodeTableWord 4 k) =
      [some .idle, some .rowCheck, some .blank, some .latchb, some .packU, some .packL, some .data,
        some .clkHi, some .clkLo, some .addr, some .latHi, some .latLo, some .oeOn, some .dwell,
        some .frameEnd, some .exit] := by decide
theorem test_decodeTableWord_command :
    decodeTableWord 96 0x0500FF000000000000000000 = some (.setbright 255) := by decide
theorem test_decodeTableWord_illegal : decodeTableWord 96 0x0B0000000000000000000000 = none := by decide
theorem test_encode_fillrect :
    encode (.fillrect (-2) 30 4 4 255#8 255#8 0#8) = .command 0x04FFFE001E00040004FFFF00#96 := by decide
theorem test_pseudo_clear : encode callClear = .command 0x030000000000000000000000#96 := by decide
theorem test_pseudo_show : encode callShow = .command 0x060000000000000000000000#96 := by decide
theorem test_placed_phase_runs :
    look (step (base.withFetchWord 4 0x9)) (fun t => (t.phase, t.pinAddr)) = some (.latHi, 0#5) := by decide
theorem test_placed_command_runs :
    look (step (base.withFetchWord 96 0x0500FF000000000000000000)) (fun t => (t.brightness, t.hc)) =
      some (255#8, .idle) := by decide

/-! ### One step of each instruction (95_test_vectors.md 1.2, 2.2 to 2.5) -/

/-- 2.2: SETPIXEL 10,7,200,100,50 writes offsets 1374, 1375, 1376. -/
theorem test_setpixel :
    look (exec (.setpixel 10 7 0xC8#8 0x64#8 0x32#8) base) (fun t => (t.fb, t.trace)) =
      some ([(1374, 0xC8#8), (1375, 0x64#8), (1376, 0x32#8)], [.response 0#32]) := by decide
/-- 2.2: (64, 0) must not alias pixel (0, 1). -/
theorem test_setpixel_out_of_bounds :
    look (exec (.setpixel 64 0 9#8 9#8 9#8) base) (fun t => (t.fb, t.trace)) =
      some ([], [.response 0#32]) := by decide
/-- 1.2 row 9: the answer is 110A141E. -/
theorem test_getpixel :
    look (exec (.getpixel 5 5)
      { base with fb := [(975, 10#8), (976, 20#8), (977, 30#8)], brightness := 10#8 })
        (fun t => t.trace) = some [.response 0x110A141E#32] := by decide
/-- 2.1: out of bounds 10000000. -/
theorem test_getpixel_out_of_bounds :
    look (exec (.getpixel (-1) 0) base) (fun t => t.trace) = some [.response 0x10000000#32] := by decide
/-- 1.2 row 11: CLEAR (1,2,3) begins at pixel 0. -/
theorem test_clear :
    look (exec (.clear 1#8 2#8 3#8) base) (fun t => (t.fb, t.hc, t.trace)) =
      some ([(0, 1#8), (1, 2#8), (2, 3#8)], .clearing 1 1#8 2#8 3#8, []) := by decide
/-- 2.3: the last of the 4096 host steps writes pixel (63, 63) and responds. -/
theorem test_clear_last :
    look (hostStep { base with hc := .clearing 4095 1#8 2#8 3#8 }) (fun t => (t.fb, t.hc, t.trace)) =
      some ([(12285, 1#8), (12286, 2#8), (12287, 3#8)], .idle, [.response 0#32]) := by decide
/-- 2.3: FILLRECT 63,63,1,1,7,8,9 writes only bytes 12285 to 12287. -/
theorem test_fillrect_one_pixel :
    look (exec (.fillrect 63 63 1 1 7#8 8#8 9#8) base) (fun t => (t.fb, t.hc, t.trace)) =
      some ([(12285, 7#8), (12286, 8#8), (12287, 9#8)], .idle, [.response 0#32]) := by decide
/-- 2.1: pixel x = 32768 of FILLRECT 32767,0,2,1 is out of bounds, no wrap. -/
theorem test_fillrect_no_wrap :
    look (hostStep { base with hc := .filling 1 0 32767 0 2 1 1#8 1#8 1#8 }) (fun t => (t.fb, t.hc)) =
      some ([], .idle) := by decide
/-- 1.2 row 14: 300 is clamped to 255. -/
theorem test_setbright_high :
    look (exec (.setbright 300) { base with brightness := 1#8 }) (fun t => t.brightness) =
      some 255#8 := by decide
/-- 1.2 row 14: -5 is clamped to 0. -/
theorem test_setbright_low :
    look (exec (.setbright (-5)) base) (fun t => t.brightness) = some 0#8 := by decide
/-- 2.3: PRESENT changes no state, running or not. -/
theorem test_present :
    look (exec .present (at' .dwell)) (fun t => ({ t with trace := [] }, t.trace)) =
      some (at' .dwell, [.response 0#32]) := by decide +kernel
/-- P3: START begins at ROW_CHECK of row 0. -/
theorem test_start :
    look (exec .start { base with row := 7#5, col := 3#6 }) (fun t => (t.running, t.phase, t.row, t.col)) =
      some (true, .rowCheck, 0#5, 0#6) := by decide
/-- 1.3 row 17: START while running leaves the position. -/
theorem test_start_running :
    look (exec .start { at' .data with row := 7#5, col := 3#6 })
      (fun t => (t.running, t.phase, t.row, t.col)) = some (true, .data, 7#5, 3#6) := by decide
/-- P3: STOP while running does not respond yet. -/
theorem test_stop :
    look (exec .stop (at' .dwell)) (fun t => (t.stopReq, t.hc, t.trace)) =
      some (true, .stopping, []) := by decide
/-- 1.3 row 18: STOP before START responds at once. -/
theorem test_stop_stopped :
    look (exec .stop base) (fun t => (t.stopReq, t.hc, t.trace)) =
      some (false, .idle, [.response 0#32]) := by decide
/-- 2.1: both flags set, 20000003; the flags stay. -/
theorem test_getstatus :
    look (exec .getstatus { base with status := 0b11#2 }) (fun t => (t.status, t.trace)) =
      some (0b11#2, [.response 0x20000003#32]) := by decide
/-- 2.1: IC alone is 20000002. -/
theorem test_getstatus_ic :
    look (exec .getstatus { base with status := 0b10#2 }) (fun t => t.trace) =
      some [.response 0x20000002#32] := by decide
/-- 2.1: the illegal word 0A is answered with F0000005 and sets IC. -/
theorem test_illegal_word :
    look (hostStep { base with cmds := [0x0A0001000200030004050607#96] }) (fun t => (t.status, t.trace)) =
      some (0b10#2, [.response 0xF0000005#32]) := by decide
/-- 2.5: IDLE. -/
theorem test_idle : look (exec .idle base) (fun t => t) = some base := by decide +kernel
/-- 2.5: ROW_CHECK. -/
theorem test_rowCheck :
    look (exec .rowCheck { at' .rowCheck with row := 7#5 }) (fun t => t.phase) = some .blank := by decide
/-- 2.5: ROW_CHECK with a stop request. -/
theorem test_rowCheck_stop :
    look (exec .rowCheck { at' .rowCheck with row := 7#5, stopReq := true }) (fun t => t.phase) =
      some .exit := by decide
/-- 2.5: BLANK. -/
theorem test_blank :
    look (exec .blank { at' .blank with pinOeN := false }) (fun t => (t.pinOeN, t.phase)) =
      some (true, .latchb) := by decide
/-- 2.5: LATCHB. -/
theorem test_latchb :
    look (exec .latchb { at' .latchb with brightness := 200#8, col := 9#6 })
      (fun t => (t.brightLat, t.col, t.phase)) = some (200#8, 0#6, .packU) := by decide
/-- 2.5: PACK_U of (255, 0, 0) at 255. -/
theorem test_packU :
    look (exec .packU { at' .packU with brightLat := 255#8, fb := [(0, 255#8)] })
      (fun t => (t.pixTmp, t.phase)) = some (0b001#3, .packL) := by decide
/-- 2.5: PACK_L of (0, 0, 255) at pixel (0, 32), whose blue byte is at 6146: the word is 21. -/
theorem test_packL :
    look (exec .packL { at' .packL with brightLat := 255#8, pixTmp := 0b001#3, fb := [(6146, 255#8)] })
      (fun t => (t.rowWord 0#6, t.col, t.phase)) = some (0x21#8, 1#6, .packU) := by decide
/-- 2.5: PACK_L at column 63. -/
theorem test_packL_last :
    look (exec .packL { at' .packL with col := 63#6 }) (fun t => (t.col, t.phase)) =
      some (0#6, .data) := by decide
/-- 2.5: DATA. -/
theorem test_data :
    look (exec .data ((at' .data).setRowWord 0#6 0x21#8)) (fun t => (t.pinData, t.phase)) =
      some (0b100001#6, .clkHi) := by decide
/-- 2.5: CLK_HI; the panel shifts DATA in (44_panel_observer.md R167). -/
theorem test_clkHi :
    look (exec .clkHi { at' .clkHi with pinData := 0b100001#6 })
      (fun t => (t.pinClk, t.phase, t.panel.sr[0])) = some (true, .clkLo, 0b100001#6) := by decide
/-- 2.5: CLK_LO at column 63. -/
theorem test_clkLo_last :
    look (exec .clkLo { at' .clkLo with pinClk := true, col := 63#6 })
      (fun t => (t.pinClk, t.col, t.phase)) = some (false, 0#6, .addr) := by decide
/-- 2.5: CLK_LO with a fault: PF, the next column, one event. -/
theorem test_clkLo_fault :
    look (exec .clkLo { at' .clkLo with pinClk := true, col := 5#6, ioErr := true })
      (fun t => (t.status, t.col, t.phase, t.trace.head?)) =
      some (0b01#2, 6#6, .data, some (.peripheralFault 0x02#8 .clkLo 0#5 5#6)) := by decide
/-- 2.5: ADDR of row 12. -/
theorem test_addr :
    look (exec .addr { at' .addr with row := 12#5 }) (fun t => (t.pinAddr, t.phase)) =
      some (0b01100#5, .latHi) := by decide
/-- 2.5: LAT_HI. -/
theorem test_latHi :
    look (exec .latHi (at' .latHi)) (fun t => (t.pinLat, t.phase)) = some (true, .latLo) := by decide
/-- 2.5: LAT_LO. -/
theorem test_latLo :
    look (exec .latLo { at' .latLo with pinLat := true }) (fun t => (t.pinLat, t.phase)) =
      some (false, .oeOn) := by decide
/-- 2.5: OE_ON. -/
theorem test_oeOn :
    look (exec .oeOn (at' .oeOn)) (fun t => (t.pinOeN, t.dwellCnt, t.phase)) =
      some (false, 3, .dwell) := by decide
/-- 2.5: DWELL counting. -/
theorem test_dwell :
    look (exec .dwell { at' .dwell with dwellCnt := 3 }) (fun t => (t.dwellCnt, t.phase)) =
      some (2, .dwell) := by decide
/-- 2.5: DWELL at its end, row 12; OE_n is still 0, and the row just shown is 12 (R112, R128). -/
theorem test_dwell_end :
    look (exec .dwell { at' .dwell with row := 12#5, pinAddr := 12#5, pinOeN := false })
      (fun t => (t.row, t.phase, t.pinOeN, t.pinAddr, t.rowShown)) =
      some (13#5, .rowCheck, false, 12#5, 12#5) := by decide
/-- 2.5: FRAME_END. -/
theorem test_frameEnd :
    look (exec .frameEnd { at' .frameEnd with row := 31#5, pinOeN := false })
      (fun t => (t.pinOeN, t.row, t.phase)) = some (true, 0#5, .rowCheck) := by decide
/-- 2.5: EXIT. -/
theorem test_exit :
    look (exec .exit { at' .exit with stopReq := true, pinOeN := false })
      (fun t => (t.pinOeN, t.running, t.stopReq, t.phase)) = some (true, false, false, .idle) := by decide
/-- 2.4: the boundary rows of the quantizer table. -/
theorem test_quantizer :
    [quantize 127#8 255#8, quantize 128#8 255#8, quantize 129#8 255#8, quantize 255#8 128#8,
      quantize 255#8 129#8, quantize 254#8 129#8, quantize 200#8 163#8, quantize 200#8 164#8] =
      [false, false, true, false, true, false, false, true] := by decide
/-- 2.4: the packed words of four rows of the table. -/
theorem test_packed_words :
    [packWord (quantizePixel (200#8, 100#8, 50#8) 255#8) (quantizePixel (129#8, 128#8, 255#8) 255#8),
      packWord (quantizePixel (200#8, 100#8, 50#8) 164#8) (quantizePixel (129#8, 128#8, 255#8) 164#8),
      packWord (quantizePixel (129#8, 129#8, 129#8) 255#8) (quantizePixel (128#8, 128#8, 128#8) 255#8),
      packWord (quantizePixel (255#8, 130#8, 129#8) 254#8) (quantizePixel (0#8, 0#8, 0#8) 254#8)] =
      [0x29#8, 0x21#8, 0x07#8, 0x03#8] := by decide
/-- 60_exceptions.md R177: construction refuses a wrong geometry and DWELL_TICKS = 0. -/
theorem test_construct_refuses :
    construct { cfg4 with width := 32 } = .fault .configurationError ∧
      construct { cfg4 with dwellTicks := 0 } = .fault .configurationError := ⟨rfl, rfl⟩

/-! ### Witnesses: for each statement with hypotheses, a state and operands that meet them -/

/-- A host about to take the word `cw`. -/
def hostWith (cw : CommandWord) : State := { base with schedule := [.host], cmds := [cw] }

/-- An engine about to make `n` steps without fault in a phase. -/
def engineWith (p : Phase) (n : Nat) : State := { at' p with schedule := List.replicate n (.engine false) }

theorem witness_DecodeInvertsEncode :
    Instr.wf (.fillrect (-32768) 32767 (-1) 0 255#8 0#8 128#8) = true ∧
      Instr.wf (.setbright (-32768)) = true ∧ Instr.wf .exit = true := by decide

theorem witness_EncodeKeepsTheUsedFields :
    decodeCommand 0x0100030005FFFF1234FF8000#96 = .ok (.setpixel 3 5 255#8 128#8 0#8) := by decide

theorem witness_ExactlyTheNineOpcodesDecode :
    (1 ≤ (cwOp 0x010000000000000000000000#96).toNat ∧ (cwOp 0x010000000000000000000000#96).toNat ≤ 9) ∧
    (1 ≤ (cwOp 0x090000000000000000000000#96).toNat ∧ (cwOp 0x090000000000000000000000#96).toNat ≤ 9) ∧
    (cwOp 0x000000000000000000000000#96).toNat = 0 ∧ 10 ≤ (cwOp 0x0A0000000000000000000000#96).toNat ∧
    10 ≤ (cwOp 0xFF0000000000000000000000#96).toNat := by decide

theorem witness_UnusedFieldsHaveNoEffect :
    UsedFieldsAgree 0x0100030005FFFF1234FF8000#96 0x010003000500000000FF8000#96 ∧
      UsedFieldsAgree 0x0600000000000000000000FF#96 0x060000000000000000000000#96 :=
  ⟨⟨by decide, by decide, by decide, by decide, by decide, by decide⟩, ⟨by decide, trivial⟩⟩

theorem witness_IllegalWordSetsIcAndIsAnsweredWithAnError :
    ((hostWith 0x0A0000000000000000000000#96).schedule = .host :: [] ∧
      (hostWith 0x0A0000000000000000000000#96).hc = .idle ∧
      (hostWith 0x0A0000000000000000000000#96).cmds = 0x0A0000000000000000000000#96 :: [] ∧
      10 ≤ (cwOp 0x0A0000000000000000000000#96).toNat) ∧
    (cwOp 0x000000000000000000000000#96).toNat = 0 := by decide

theorem witness_StepRunsTheDecodedInstruction :
    ((engineWith .data 1).schedule = .engine false :: [] ∧
      decode (.phase (phaseCode (engineWith .data 1).phase)) = .ok .data) ∧
    ((hostWith 0x030000000000000000010203#96).schedule = .host :: [] ∧
      (hostWith 0x030000000000000000010203#96).hc = .idle ∧
      (hostWith 0x030000000000000000010203#96).cmds = 0x030000000000000000010203#96 :: [] ∧
      decode (.command 0x030000000000000000010203#96) = .ok (.clear 1#8 2#8 3#8)) ∧
    decode (.phase 0xF#4) = .ok .exit ∧
    decode (.command 0x060000000000000000000000#96) = .ok .present := by decide

/-- For SetpixelStoresExactlyOnePixel, GetpixelRespondsWithTheStoredBytes and ReadAfterWriteIsUnscaled, at
both corners. -/
theorem witness_in_bounds_pixels :
    ((0 : Int) ≤ 0 ∧ (0 : Int) < 64 ∧ (0 : Int) ≤ 63 ∧ (63 : Int) < 64) ∧
      (0 < pixOff 0 63 ∨ pixOff 0 63 + 2 < 0) ∧ (12287 < pixOff 0 0 ∨ pixOff 0 0 + 2 < 12287) := by decide

theorem witness_BoundsViolationsAreDropped :
    ¬((0 : Int) ≤ 64 ∧ (64 : Int) < 64 ∧ (0 : Int) ≤ 0 ∧ (0 : Int) < 64) ∧
    ¬((0 : Int) ≤ 0 ∧ (0 : Int) < 64 ∧ (0 : Int) ≤ -1 ∧ (-1 : Int) < 64) ∧
    (60 + ((4 : Nat) : Int) = 64 ∧ 0 + ((0 : Nat) : Int) = 0) := by decide

theorem witness_ClearStartsAtPixelZero : pixOff 0 0 + 2 < 3 := by decide

/-- The least and the greatest number of host steps. -/
theorem witness_ClearFillsInRowMajorOrderUnderAnyInterleaving :
    decodeCommand 0x030000000000000000010203#96 = .ok (.clear 1#8 2#8 3#8) ∧ base.hc = .idle ∧
    (let ts : List Turn := [.engine true, .host, .engine false];
      ({ base with cmds := [0x030000000000000000010203#96], schedule := ts } : State).schedule = ts ++ [] ∧
        .reset ∉ ts ∧ 1 ≤ ts.count .host ∧ ts.count .host ≤ 4096 ∧ ts.count .host < 4096) ∧
    (let ts : List Turn := List.replicate 4096 .host;
      .reset ∉ ts ∧ ts.count .host = 4096) ∧
    base.running = false ∧
    (let s : State := { base with hc := .clearing 4094 1#8 2#8 3#8, schedule := [.host] };
      s.schedule = .host :: [] ∧ s.hc = .clearing 4094 1#8 2#8 3#8 ∧ (4094 : Fin 4096).val < 4095) ∧
    (let s : State := { base with hc := .clearing 4095 1#8 2#8 3#8, schedule := [.host] };
      s.schedule = .host :: [] ∧ s.hc = .clearing 4095 1#8 2#8 3#8 ∧ (4095 : Fin 4096).val = 4095) := by
  refine ⟨by decide, rfl, by decide, ⟨?_, List.count_replicate_self⟩, rfl, by decide, by decide⟩
  intro h; cases (List.mem_replicate.1 h).2

theorem witness_FillrectStartsAtItsCorner :
    ((0 : Int) ≤ 0 ∨ (5 : Int) ≤ 0) ∧ ((0 : Int) < 1 ∧ (0 : Int) < 1) ∧
    ((0 : Int) ≤ 63 ∧ (63 : Int) < 64 ∧ (0 : Int) ≤ 63 ∧ (63 : Int) < 64) ∧
    ¬((0 : Int) ≤ -2 ∧ (-2 : Int) < 64 ∧ (0 : Int) ≤ 30 ∧ (30 : Int) < 64) ∧
    (0 < pixOff 63 63 ∨ pixOff 63 63 + 2 < 0) := by decide

theorem witness_FillrectFillsTheClippedRectangleUnderAnyInterleaving :
    decodeCommand 0x04FFFE001E00040004FFFF00#96 = .ok (.fillrect (-2) 30 4 4 255#8 255#8 0#8) ∧
    (0 : Int) < 4 ∧ base.hc = .idle ∧
    (let ts : List Turn := .engine true :: List.replicate 16 .host;
      ({ base with cmds := [0x04FFFE001E00040004FFFF00#96], schedule := ts } : State).schedule = ts ++ [] ∧
        .reset ∉ ts ∧ ts.count .host = ((4 : Int) * 4).toNat) ∧
    base.running = false ∧
    (let s : State := { base with hc := .filling 2 3 (-2) 30 4 4 1#8 2#8 3#8, schedule := [.host] };
      s.schedule = .host :: [] ∧ s.hc = .filling 2 3 (-2) 30 4 4 1#8 2#8 3#8 ∧ ((2 : Nat) : Int) + 1 < 4) ∧
    (let s : State := { base with hc := .filling 3 2 (-2) 30 4 4 1#8 2#8 3#8, schedule := [.host] };
      s.hc = .filling 3 2 (-2) 30 4 4 1#8 2#8 3#8 ∧ ¬((3 : Nat) : Int) + 1 < 4 ∧ ((2 : Nat) : Int) + 1 < 4) ∧
    (let s : State := { base with hc := .filling 3 3 (-2) 30 4 4 1#8 2#8 3#8, schedule := [.host] };
      s.hc = .filling 3 3 (-2) 30 4 4 1#8 2#8 3#8 ∧ ¬((3 : Nat) : Int) + 1 < 4) := by decide

theorem witness_ClearIsAFillrectOfTheWholePanel :
    decodeCommand 0x030000000000000000070809#96 = .ok (.clear 7#8 8#8 9#8) ∧
    decodeCommand 0x040000000000400040070809#96 = .ok (.fillrect 0 0 64 64 7#8 8#8 9#8) ∧
    base.hc = .idle ∧ 1 ≤ 4096 ∧ 4096 ≤ 4096 := by decide

/-- For StartBeginsAtRowZero, LifecycleMisuseOnlyResponds and StopWaitsForTheEngine. -/
theorem witness_lifecycle :
    base.running = false ∧ (at' .data).running = true ∧
    (let s : State := { at' .data with schedule := [.host], stopReq := true, hc := .stopping };
      s.schedule = .host :: [] ∧ s.hc = .stopping ∧ s.running = true) ∧
    (let s : State := { base with schedule := [.host], hc := .stopping };
      s.schedule = .host :: [] ∧ s.hc = .stopping ∧ s.running = false) := by decide

theorem witness_StopRequestIsHonouredWithinARow :
    (let ios : List Bool := List.replicate 333 true;
      let s : State := { at' .blank with
        row := 31#5, stopReq := true, hc := .stopping, schedule := ios.map .engine };
      SchedulerOk s ∧ DwellOk s ∧ s.stopReq = true ∧ ios.length = 329 + s.cfg.dwellTicks ∧
        s.schedule = ios.map .engine ++ []) := by
  exact ⟨by decide, by decide, rfl, List.length_replicate, (List.append_nil _).symm⟩

theorem witness_ACommandRespondsExactlyWhenItEnds :
    ((hostWith 0x060000000000000000000000#96).schedule = .host :: [] ∧
      (hostWith 0x060000000000000000000000#96).cmds ≠ []) ∧
    (let s : State := { base with schedule := [.host], hc := .clearing 4095 0#8 0#8 0#8 };
      s.schedule = .host :: [] ∧ s.hc ≠ .idle) := by decide

theorem witness_PackLStoresThePackedWord :
    ({ at' .packL with col := 63#6 } : State).col = 63#6 ∧ (at' .packL).col ≠ 63#6 ∧
      (63#6 : BitVec 6) ≠ (at' .packL).col := by decide

/-- For the statements with `PinWritten`: a write that succeeds and one that fails; for CLK_LO both kinds
of column. -/
theorem witness_pin_writes :
    (at' .clkLo).ioFails = false ∧ ({ at' .clkLo with ioErr := true } : State).ioFails = true ∧
      ({ at' .clkLo with col := 63#6 } : State).col = 63#6 ∧ (at' .clkLo).col ≠ 63#6 := by decide

theorem witness_DwellCountsDownAndEndsTheRow :
    ({ at' .dwell with dwellCnt := 3 } : State).dwellCnt = 2 + 1 ∧
    (({ at' .dwell with row := 31#5 } : State).dwellCnt = 0 ∧
      ({ at' .dwell with row := 31#5 } : State).row = 31#5) ∧
    ((at' .dwell).dwellCnt = 0 ∧ (at' .dwell).row ≠ 31#5) := by decide

theorem witness_QuantizerIsMonotoneWithThreshold :
    ((129#8).toNat ≤ (255#8).toNat ∧ (255#8).toNat ≤ (255#8).toNat ∧ quantize 129#8 255#8 = true) ∧
    129 ≤ (129#8).toNat ∧ 129 ≤ (255#8).toNat ∧ (128#8).toNat ≤ 128 ∧ (0#8).toNat ≤ 128 := by decide

theorem witness_QuantizerRoundTripFrom129 : 129 ≤ (129#8).toNat ∧ (128#8).toNat ≤ 128 := by decide

theorem witness_EveryStepKeepsMemoryCanonical :
    (let s : State := { at' .data with fb := [(12287, 1#8)], schedule := [.engine true] };
      MemoryOk s ∧ ∃ t, step s = .next t) := ⟨by decide, _, rfl⟩

theorem witness_EveryStepKeepsTheSchedulerFlagsConsistent :
    (let s : State := { at' .exit with stopReq := true, hc := .stopping, schedule := [.engine false] };
      SchedulerOk s ∧ ∃ t, step s = .next t) := ⟨by decide, _, rfl⟩

theorem witness_EveryStepKeepsRowbufTopBitsZero :
    RowbufOk (engineWith .packL 1) ∧ ∃ t, step (engineWith .packL 1) = .next t :=
  ⟨by decide +kernel, _, rfl⟩

theorem witness_EveryStepKeepsTheCountersInRange :
    (DwellOk (engineWith .oeOn 1) ∧ PortOk (engineWith .oeOn 1) ∧
      ∃ t, step (engineWith .oeOn 1) = .next t) ∧
    (let s : State := { base with hc := .filling 1 0 0 0 2 1 0#8 0#8 0#8, schedule := [.host] };
      PortOk s ∧ ∃ t, step s = .next t) :=
  ⟨⟨by decide, trivial, _, rfl⟩, ⟨by decide, by decide, by decide, by decide, by decide, by decide⟩, _, rfl⟩

theorem witness_EveryStepKeepsThePanelInStep :
    PanelOk (engineWith .clkHi 1) ∧ ∃ t, step (engineWith .clkHi 1) = .next t := ⟨by decide, _, rfl⟩

/-- A lit row at its last dwell step, all of it dark pixels, before row 13. -/
def litState : State :=
  { at' .dwell with row := 12#5, pinAddr := 12#5, pinOeN := false, schedule := [.engine false] }

theorem litState_latched : Latched litState := by unfold Latched; decide +kernel

theorem litState_displayOk : DisplayOk litState :=
  fun _ => ⟨rfl, rfl, rfl, rfl, litState_latched⟩

theorem witness_EveryStepKeepsTheDisplayInStep :
    SchedulerOk litState ∧ PanelOk litState ∧ DisplayOk litState ∧ litState.pf = false ∧
      ∃ t, step litState = .next t :=
  ⟨by decide, by decide, litState_displayOk, by decide, _, rfl⟩

theorem witness_ResetMoveBlanksAndClears :
    ({ at' .dwell with row := 17#5, pinOeN := false, schedule := [.reset] } : State).schedule =
      .reset :: [] := rfl

theorem witness_ConstructionAcceptsExactlyTheValidConfigurations :
    (cfg4.width = 64 ∧ cfg4.height = 64 ∧ 1 ≤ cfg4.dwellTicks ∧
      ∀ i j : Fin 14, cfg4.pins[i] ≠ none ∧ (cfg4.pins[i] = cfg4.pins[j] → i = j)) ∧
    ¬(({ cfg4 with dwellTicks := 0 } : Configuration).width = 64 ∧
      ({ cfg4 with dwellTicks := 0 } : Configuration).height = 64 ∧
      1 ≤ ({ cfg4 with dwellTicks := 0 } : Configuration).dwellTicks ∧
      ∀ i j : Fin 14, cfg4.pins[i] ≠ none ∧ (cfg4.pins[i] = cfg4.pins[j] → i = j)) :=
  ⟨⟨rfl, rfl, by decide, by decide +kernel⟩, fun h => absurd h.2.2.1 (by decide)⟩

theorem witness_StatusFlagsAreSticky :
    (let s : State := { engineWith .data 1 with status := 0b11#2 };
      s.nextTurn.1 ≠ .reset ∧ s.pf = true ∧ s.ic = true ∧ ∃ t, step s = .next t) :=
  ⟨by decide, by decide, by decide, _, rfl⟩

theorem witness_HostStepsTouchNoPinAndNoRowScanState :
    (hostWith 0x070000000000000000000000#96).schedule = .host :: [] ∧
      ∃ t, step (hostWith 0x070000000000000000000000#96) = .next t := ⟨rfl, _, rfl⟩

theorem witness_EngineStepsTouchNoHostState :
    ((engineWith .exit 1).schedule = .engine false :: [] ∧ (engineWith .exit 1).phase = .exit ∧
      ∃ t, step (engineWith .exit 1) = .next t) ∧
    ((engineWith .data 1).schedule = .engine false :: [] ∧ (engineWith .data 1).phase ≠ .exit ∧
      ∃ t, step (engineWith .data 1) = .next t) :=
  ⟨⟨rfl, rfl, _, rfl⟩, ⟨rfl, by decide, _, rfl⟩⟩

/-- For StopReqIsReadOnlyAtRowCheck and BrightnessIsReadOnlyAtLatchb. -/
theorem witness_read_only_phases :
    (at' .packU).phase ≠ .rowCheck ∧ (at' .packU).phase ≠ .latchb := by decide

/-- Both clauses, at column 63 of row-pair 31. -/
theorem witness_AWriteBetweenTheTwoReadsOfAColumn :
    (let s : State := { at' .packU with
        row := 31#5, col := 63#6, cmds := [0x01003F003F00000000010203#96]
        schedule := [.engine false, .host, .engine false] };
      s.phase = .packU ∧ s.hc = .idle ∧ s.schedule = .engine false :: .host :: .engine false :: [] ∧
        decodeCommand 0x01003F003F00000000010203#96 =
          .ok (.setpixel s.col.toNat (s.row.toNat + 32) 1#8 2#8 3#8) ∧
        decodeCommand 0x01003F001F00000000010203#96 =
          .ok (.setpixel s.col.toNat s.row.toNat 1#8 2#8 3#8)) := by decide

theorem witness_PanelMovesOnRisingEdgesOnly :
    (base.panel.prevClk = false ∧ true = true) ∧ ¬(base.panel.prevClk = false ∧ false = true) ∧
      (base.panel.prevLat = false ∧ true = true) ∧ ¬(base.panel.prevLat = false ∧ false = true) := by decide

theorem witness_LitPinsDoNotChange :
    DisplayOk litState ∧ litState.pinOeN = false ∧
      ∃ t, engineStep false litState = .next t ∧ t.pf = false :=
  ⟨litState_displayOk, rfl, _, rfl, by decide⟩

theorem witness_LitLedsShowTheRowBuffer :
    (DisplayOk litState ∧ litState.pf = false ∧ litState.pinOeN = false ∧ litState.phase = .dwell) ∧
      (DisplayOk base ∧ base.pf = false ∧ base.pinOeN = true) ∧
      (let s : State := { litState with phase := .rowCheck, row := 13#5 };
        DisplayOk s ∧ s.pf = false ∧ s.phase = .rowCheck ∧ s.pinOeN = false) :=
  ⟨⟨litState_displayOk, rfl, rfl, rfl⟩, ⟨fun _ => ⟨rfl, rfl, rfl⟩, rfl, rfl⟩,
    fun _ => ⟨rfl, rfl, fun _ => ⟨by decide, by decide, litState_latched⟩⟩, rfl, rfl, rfl⟩

theorem witness_OneRowIsPackedShiftedLatchedAndLit :
    (let s := engineWith .rowCheck 327;
      s.phase = .rowCheck ∧ s.stopReq = false ∧ PanelOk s ∧ s.pinClk = false ∧ s.pinLat = false ∧
        s.schedule = List.replicate 327 (.engine false) ++ []) := by
  refine ⟨rfl, rfl, by decide, rfl, rfl, (List.append_nil _).symm⟩

theorem witness_TheDwellLastsDwellTicksSteps :
    (let s : State := { at' .dwell with dwellCnt := 3, schedule := [true, false, true, false].map .engine };
      s.phase = .dwell ∧ s.dwellCnt = s.cfg.dwellTicks - 1 ∧ 1 ≤ s.cfg.dwellTicks ∧
        [true, false, true, false].length = s.dwellCnt + 1 ∧
        s.schedule = [true, false, true, false].map .engine ++ [] ∧ s.row ≠ 31#5) ∧
      ({ at' .dwell with row := 31#5 } : State).row = 31#5 := by decide

theorem witness_OneFrameTakesItsStepsAndPinWrites :
    (let s := engineWith .rowCheck 10593;
      s.phase = .rowCheck ∧ s.row = 0#5 ∧ s.stopReq = false ∧ PanelOk s ∧ s.pinClk = false ∧
        s.pinLat = false ∧ 1 ≤ s.cfg.dwellTicks ∧
        s.schedule = List.replicate (32 * (327 + s.cfg.dwellTicks) + 1) (.engine false) ++ []) := by
  refine ⟨rfl, rfl, rfl, by decide, rfl, rfl, by decide, (List.append_nil _).symm⟩

theorem witness_TheFrameShowsTheQuantizedFramebuffer :
    (let s := engineWith .rowCheck 10588;
      s.phase = .rowCheck ∧ s.row = 0#5 ∧ s.stopReq = false ∧ PanelOk s ∧ s.pinClk = false ∧
        s.pinLat = false ∧ 1 ≤ s.cfg.dwellTicks ∧ 31 < 32 ∧
        s.schedule = List.replicate (31 * (327 + s.cfg.dwellTicks) + 327) (.engine false) ++ []) := by
  refine ⟨rfl, rfl, rfl, by decide, rfl, rfl, by decide, by decide, (List.append_nil _).symm⟩

/-- The infinite run from a state. -/
def runFrom (s : State) (n : Nat) : State :=
  match n with
  | 0 => s
  | k + 1 => (look (step (runFrom s k)) id).getD s

theorem isRun_runFrom (s : State) : IsRun (runFrom s) := by
  intro n
  obtain ⟨t, ht⟩ := step_total (runFrom s n)
  simp [runFrom, ht, look]

/-- A running engine with row-pair 12 lit and a STOP in progress. -/
theorem witness_EveryRunIsWeaklyFairToTheEngine :
    (let s : State := { litState with schedule := [], stopReq := true, hc := .stopping };
      IsRun (runFrom s) ∧ SchedulerOk (runFrom s 0) ∧ DwellOk (runFrom s 0) ∧
        (runFrom s 0).stopReq = true ∧ (runFrom s 0).running = true ∧ EngineEnabled (runFrom s 0) ∧
        (runFrom s 0).pinOeN = false) :=
  ⟨isRun_runFrom _, by decide, by decide, rfl, rfl, by decide, rfl⟩

/-- 00_scope.md R9: with no turn listed and no patience left, the turn is the engine's. -/
theorem test_engine_turn_is_forced : EngineTurn { at' .dwell with patience := 0 } := ⟨_, rfl⟩

end Sys2Proof.Tests
end

/-! ## O7: a step runs the decoded instruction -/

namespace Sys2Proof.Machine

open Sys2Proof

/-- The codes of 30_encoding.md R82 name each phase. -/
@[simp] theorem phaseOfCode_phaseCode (p : Phase) : phaseOfCode (phaseCode p) = p := by
  cases p <;> rfl

/-- An engine turn runs the micro-operation of the phase register (41_row_scan.md R110). -/
theorem step_engine {s : State} {io : Bool} {rest : List Turn} (h : s.schedule = .engine io :: rest) :
    step s = exec (phaseInstr s.phase) { s with schedule := rest, ioErr := io } :=
  step_cons h

/-- An idle port runs the command the first listed word decodes to (30_encoding.md R81). -/
theorem hostStep_command {s : State} {cw : CommandWord} {ws : List CommandWord} {i : Instr}
    (hc : s.hc = .idle) (hw : s.cmds = cw :: ws) (hd : decodeCommand cw = .ok i) :
    hostStep s = exec i { s with cmds := ws } := by
  simp [hostStep, hc, State.nextWord_cons hw, acceptWord, hd]

/-- A host turn at an idle port runs the command the first listed word decodes to (R9, R81). -/
theorem step_host_command {s : State} {rest : List Turn} {cw : CommandWord} {ws : List CommandWord}
    {i : Instr} (h : s.schedule = .host :: rest) (hc : s.hc = .idle) (hw : s.cmds = cw :: ws)
    (hd : decodeCommand cw = .ok i) :
    step s = exec i { s with schedule := rest, cmds := ws } :=
  (step_cons h).trans (hostStep_command hc hw hd)

/-- Settles O7: each clause is `step_engine` or `step_host_command`, the last two at the state that
`State.place` makes. -/
theorem stepRunsTheDecodedInstruction : Obligations.StepRunsTheDecodedInstruction := by
  unfold Obligations.StepRunsTheDecodedInstruction
  refine ⟨fun s rest io i h hd => ?_, fun s rest cw ws i h hc hw hd => ?_, fun s p i hd => ?_,
    fun s cw i hd => ?_⟩
  · obtain rfl : phaseInstr s.phase = i := by simpa [decode] using hd
    exact step_engine h
  · exact step_host_command h hc hw hd
  · obtain rfl : phaseInstr (phaseOfCode p) = i := by simpa [decode] using hd
    exact step_engine rfl
  · exact step_host_command rfl rfl rfl hd

end Sys2Proof.Machine

/-! ## O60: weak fairness and what it gives -/

namespace Sys2Proof.Machine

open Sys2Proof

/-! ### Fair turns -/

/-- A bound on the turns before the engine's next one: the listed turns, then the gap that `patience`
still allows. -/
def State.engineGap (s : State) : Nat := s.schedule.length + s.patience

/-- Every turn that is not the engine's brings the engine's next turn nearer (00_scope.md R9). -/
theorem step_engineGap_lt {s t : State} (h : step s = .next t) (hn : ¬ EngineTurn s) :
    t.engineGap < s.engineGap := by
  obtain ⟨hsched, hpat⟩ := step_turns h
  unfold State.engineGap
  rw [hsched, hpat]
  cases hs : s.schedule with
  | cons turn rest => simp [State.nextTurn_cons hs]
  | nil =>
    cases hp : s.patience with
    | zero => exact absurd ⟨_, congrArg Prod.fst (State.nextTurn_forced hs hp)⟩ hn
    | succ k => simp [State.nextTurn_free hs hp, hs]

/-- The induction over a run, once: `P` leads to `Q` when every step from `P` reaches `Q`, or keeps `P`
without raising `rank`, and lowers `rank` when its turn is the engine's. -/
theorem IsRun.eventually {run : Nat → State} (hrun : IsRun run) {P Q : State → Prop}
    (rank : State → Nat)
    (hstep : ∀ s t, step s = .next t → P s → ¬ Q s →
      Q t ∨ (P t ∧ rank t ≤ rank s ∧ (EngineTurn s → rank t < rank s)))
    (n : Nat) (hP : P (run n)) : ∃ m, n ≤ m ∧ Q (run m) := by
  by_cases hQ : Q (run n)
  · exact ⟨n, le_rfl, hQ⟩
  rcases hstep _ _ (hrun n) hP hQ with hQ' | ⟨hP', hle, hlt⟩
  · exact ⟨n + 1, by omega, hQ'⟩
  · obtain ⟨m, hm, hQm⟩ := IsRun.eventually hrun rank hstep (n + 1) hP'
    exact ⟨m, by omega, hQm⟩
termination_by (rank (run n), (run n).engineGap)
decreasing_by
  by_cases he : EngineTurn (run n)
  · exact Prod.Lex.left _ _ (hlt he)
  · exact Prod.Lex.right' _ hle (step_engineGap_lt (hrun n) he)

/-- In every run the engine has a turn after every point, enabled or not. -/
theorem IsRun.engineTurn_eventually {run : Nat → State} (hrun : IsRun run) (n : Nat) :
    ∃ m, n ≤ m ∧ EngineTurn (run m) :=
  hrun.eventually (P := fun _ => True) (fun _ => 0)
    (fun _ _ _ _ hn => .inr ⟨trivial, le_rfl, fun he => absurd he hn⟩) n trivial

/-! ### Where an engine step leads -/

/-- `col` goes to the next column and the engine to phase `more`, or after the last column to 0 and phase
`last` (41_row_scan.md R117, R122). -/
def ColumnStep (s t : State) (more last : Phase) : Prop :=
  (t.phase = last ∧ t.col = 0#6) ∨
    (t.phase = more ∧ s.col.toNat < 63 ∧ t.col.toNat = s.col.toNat + 1)

/-- Where an engine step leads from each phase, with the counters that decide it: the arrows of
41_row_scan.md R111 to R130. -/
def ControlStep (s t : State) : Prop :=
  match s.phase with
  | .idle => t.phase = .idle
  | .rowCheck => t.phase = if s.stopReq then .exit else .blank
  | .blank => t.phase = .latchb
  | .latchb => t.phase = .packU ∧ t.col = 0#6
  | .packU => t.phase = .packL ∧ t.col = s.col
  | .packL => ColumnStep s t .packU .data
  | .data => t.phase = .clkHi ∧ t.col = s.col
  | .clkHi => t.phase = .clkLo ∧ t.col = s.col
  | .clkLo => ColumnStep s t .data .addr
  | .addr => t.phase = .latHi
  | .latHi => t.phase = .latLo
  | .latLo => t.phase = .oeOn
  | .oeOn => t.phase = .dwell ∧ t.dwellCnt = s.cfg.dwellTicks - 1
  | .dwell =>
    (t.phase = .dwell ∧ 0 < s.dwellCnt ∧ t.dwellCnt = s.dwellCnt - 1) ∨
      t.phase = .frameEnd ∨ t.phase = .rowCheck
  | .frameEnd => t.phase = .rowCheck
  | .exit => t.phase = .idle

theorem State.nextCol_columnStep (s : State) (more last : Phase) :
    ColumnStep s (s.nextCol more last) more last := by
  unfold State.nextCol
  split
  · exact .inl ⟨rfl, rfl⟩
  · next h => exact .inr ⟨rfl, by bv_omega, by bv_omega⟩

/-- After the last dwell step comes FRAME_END or the next ROW_CHECK (41_row_scan.md R128). -/
theorem State.advanceRow_phase (s : State) :
    s.advanceRow.phase = .frameEnd ∨ s.advanceRow.phase = .rowCheck := by
  unfold State.advanceRow
  split
  · exact .inl rfl
  · exact .inr rfl

/-- A micro-operation follows the arrows. -/
theorem exec_phaseInstr_control {s t : State} (h : exec (phaseInstr s.phase) s = .next t) :
    ControlStep s t := by
  unfold ControlStep
  cases hp : s.phase <;> rw [hp] at h <;> cases h
  case idle => exact hp
  case packL => exact State.nextCol_columnStep _ _ _
  case clkLo =>
    have hc := State.nextCol_columnStep (s.pinWrite (.clk false)) .data .addr
    simpa [ColumnStep] using hc
  case dwell =>
    by_cases hd : 0 < s.dwellCnt
    · simp [hd, hp]
    · simp [hd, State.advanceRow_phase]
  all_goals simp

/-- A micro-operation leaves the configuration and the host port alone, and only EXIT changes the
scheduler flags (60_exceptions.md R188). -/
theorem exec_phaseInstr_frame {s t : State} (h : exec (phaseInstr s.phase) s = .next t) :
    t.cfg = s.cfg ∧ t.hc = s.hc ∧
      (s.phase ≠ .exit → t.running = s.running ∧ t.stopReq = s.stopReq) := by
  cases hp : s.phase <;> rw [hp] at h <;> cases h
  case dwell => split <;> simp
  all_goals simp

theorem engineStep_control {s t : State} {io : Bool} (h : engineStep io s = .next t) :
    ControlStep s t :=
  exec_phaseInstr_control (s := { s with ioErr := io }) h

theorem engineStep_frame {s t : State} {io : Bool} (h : engineStep io s = .next t) :
    t.cfg = s.cfg ∧ t.hc = s.hc ∧
      (s.phase ≠ .exit → t.running = s.running ∧ t.stopReq = s.stopReq) :=
  exec_phaseInstr_frame (s := { s with ioErr := io }) h

/-- EXIT stops the engine (41_row_scan.md R130). -/
theorem engineStep_exit {s t : State} {io : Bool} (h : engineStep io s = .next t)
    (hp : s.phase = .exit) : t.running = false := by
  unfold engineStep at h
  rw [hp] at h
  cases h
  rfl

/-- Only EXIT leads to IDLE. -/
theorem ControlStep.phase_ne_idle {s t : State} (h : ControlStep s t) (hi : s.phase ≠ .idle)
    (he : s.phase ≠ .exit) : t.phase ≠ .idle := by
  unfold ControlStep ColumnStep at h
  intro ht
  cases hp : s.phase <;> simp [hp, ht] at h
  case idle => exact hi hp
  case rowCheck => cases hs : s.stopReq <;> simp [hs] at h
  case exit => exact he hp

/-- Only ROW_CHECK leads to BLANK, and only without a stop request (41_row_scan.md R112). -/
theorem ControlStep.of_phase_blank {s t : State} (h : ControlStep s t) (ht : t.phase = .blank) :
    s.phase = .rowCheck ∧ s.stopReq = false := by
  unfold ControlStep ColumnStep at h
  cases hp : s.phase <;> simp [hp, ht] at h
  case rowCheck => exact ⟨rfl, h⟩

/-! ### How far the engine is from EXIT -/

/-- How many engine steps a running engine with a stop request takes at most to the phase EXIT: the bound of
43_scheduler.md R154 (c), phase by phase. -/
def State.stepsToExit (s : State) : Nat :=
  match s.phase with
  | .idle | .exit => 0
  | .rowCheck => 1
  | .frameEnd => 2
  | .dwell => s.dwellCnt + 3
  | .oeOn => s.cfg.dwellTicks + 4
  | .latLo => s.cfg.dwellTicks + 5
  | .latHi => s.cfg.dwellTicks + 6
  | .addr => s.cfg.dwellTicks + 7
  | .clkLo => s.cfg.dwellTicks + 8 + 3 * (63 - s.col.toNat)
  | .clkHi => s.cfg.dwellTicks + 9 + 3 * (63 - s.col.toNat)
  | .data => s.cfg.dwellTicks + 10 + 3 * (63 - s.col.toNat)
  | .packL => s.cfg.dwellTicks + 200 + 2 * (63 - s.col.toNat)
  | .packU => s.cfg.dwellTicks + 201 + 2 * (63 - s.col.toNat)
  | .latchb => s.cfg.dwellTicks + 328
  | .blank => s.cfg.dwellTicks + 329

/-- Every engine step but the one that begins a row brings EXIT nearer. -/
theorem ControlStep.stepsToExit_lt {s t : State} (h : ControlStep s t) (hcfg : t.cfg = s.cfg)
    (hi : s.phase ≠ .idle) (he : s.phase ≠ .exit) (hb : t.phase ≠ .blank) :
    t.stepsToExit < s.stepsToExit := by
  unfold ControlStep at h
  unfold State.stepsToExit
  rw [hcfg]
  cases hp : s.phase <;> rw [hp] at h <;> dsimp only at h
  case idle => exact absurd hp hi
  case exit => exact absurd hp he
  case rowCheck =>
    cases hs : s.stopReq <;> simp only [hs] at h
    · exact absurd h hb
    · simp [h]
  case packL | clkLo => rcases h with ⟨ht, hc⟩ | ⟨ht, hlt, hc⟩ <;> simp only [ht, hc] <;> omega
  case dwell => rcases h with ⟨ht, hpos, hc⟩ | ht | ht <;> simp only [ht] <;> omega
  all_goals simp only [h]; omega

/-! ### Host steps beside a running engine -/

/-- The engine's control state, and the configuration, stand as before. -/
structure EngineSame (s t : State) : Prop where
  cfg : t.cfg = s.cfg
  running : t.running = s.running
  phase : t.phase = s.phase
  col : t.col = s.col
  dwellCnt : t.dwellCnt = s.dwellCnt

theorem EngineSame.trans {s t u : State} (h : EngineSame s t) (h' : EngineSame t u) :
    EngineSame s u :=
  ⟨h'.cfg.trans h.cfg, h'.running.trans h.running, h'.phase.trans h.phase, h'.col.trans h.col,
    h'.dwellCnt.trans h.dwellCnt⟩

theorem EngineSame.stepsToExit_eq {s t : State} (h : EngineSame s t) :
    t.stepsToExit = s.stepsToExit := by
  simp [State.stepsToExit, h.cfg, h.phase, h.col, h.dwellCnt]

/-- Taking a turn is no move of the engine. -/
theorem State.nextTurn_engineSame (s : State) : EngineSame s s.nextTurn.2 := by
  constructor <;> simp

theorem State.nextWord_engineSame (s : State) : EngineSame s s.nextWord.2 := by
  constructor <;> simp

theorem State.clearStep_engineSame (s : State) (i : Fin 4096) (r g b : Byte) :
    EngineSame s (s.clearStep i r g b) := by
  unfold State.clearStep
  split <;> exact ⟨rfl, rfl, rfl, rfl, rfl⟩

theorem State.fillStep_engineSame (s : State) (dx dy : Nat) (x y w h : Int) (r g b : Byte) :
    EngineSame s (s.fillStep dx dy x y w h r g b) := by
  unfold State.fillStep
  split_ifs <;> constructor <;> simp

/-- No command moves a running engine: START is a no-op then (60_exceptions.md R183), and STOP only asks
(43_scheduler.md R153). -/
theorem exec_command_engineSame {s t : State} {cw : CommandWord} {i : Instr}
    (hd : decodeCommand cw = .ok i) (h : exec i s = .next t) (hr : s.running = true) :
    EngineSame s t := by
  unfold decodeCommand at hd
  split at hd <;> cases hd <;> cases h
  · constructor <;> simp
  · split <;> exact ⟨rfl, rfl, rfl, rfl, rfl⟩
  · exact s.clearStep_engineSame _ _ _ _
  · split
    · exact ⟨rfl, rfl, rfl, rfl, rfl⟩
    · exact s.fillStep_engineSame _ _ _ _ _ _ _ _ _
  · exact ⟨rfl, rfl, rfl, rfl, rfl⟩
  · exact ⟨rfl, rfl, rfl, rfl, rfl⟩
  · rw [if_pos hr]; exact ⟨rfl, rfl, rfl, rfl, rfl⟩
  · rw [if_pos hr]; exact ⟨rfl, rfl, rfl, rfl, rfl⟩
  · exact ⟨rfl, rfl, rfl, rfl, rfl⟩

/-- No host step moves a running engine (60_exceptions.md R188). -/
theorem hostStep_engineSame {s t : State} (h : hostStep s = .next t) (hr : s.running = true) :
    EngineSame s t := by
  rcases hostStep_cases h with ⟨-, -, rfl⟩ | ⟨-, cw, i, -, hd, h⟩ | ⟨-, cw, e, -, -, rfl⟩ |
    ⟨i, r, g, b, -, rfl⟩ | ⟨dx, dy, x, y, w, k, r, g, b, -, rfl⟩ | ⟨-, rfl⟩
  · exact s.nextWord_engineSame
  · exact s.nextWord_engineSame.trans (exec_command_engineSame hd h (by simp [hr]))
  · exact s.nextWord_engineSame.trans (by constructor <;> simp)
  · exact s.clearStep_engineSame i r g b
  · exact s.fillStep_engineSame dx dy x y w k r g b
  · rw [State.stopStep, if_pos hr]; exact ⟨rfl, rfl, rfl, rfl, rfl⟩

/-- A STOP waits while the engine runs (43_scheduler.md R154). -/
theorem hostStep_stop_waits {s : State} (hc : s.hc = .stopping) (hr : s.running = true) :
    hostStep s = .next s := by
  simp [hostStep, hc, State.stopStep, hr]

/-! ### A stop request is honoured -/

/-- A STOP waits for a running engine that has its request. -/
structure StopPending (s : State) : Prop where
  enabled : EngineEnabled s
  running : s.running = true
  stopReq : s.stopReq = true
  waiting : s.hc = .stopping

/-- The engine has stopped, and the STOP can answer in its next host step. -/
def StopHonoured (s : State) : Prop := s.running = false ∧ s.hc = .stopping

/-- An engine step with a stop request is the EXIT that honours it, or brings EXIT nearer. -/
theorem StopPending.engineStep {s t : State} {io : Bool} (hp : StopPending s)
    (h : engineStep io s = .next t) :
    StopHonoured t ∨ (StopPending t ∧ t.stepsToExit < s.stepsToExit) := by
  obtain ⟨hcfg, hhc, hflags⟩ := engineStep_frame h
  have hcontrol := engineStep_control h
  by_cases he : s.phase = .exit
  · exact .inl ⟨engineStep_exit h he, hhc.trans hp.waiting⟩
  · obtain ⟨hrun, hreq⟩ := hflags he
    have hblank : t.phase ≠ .blank := fun hb => by
      simpa [hp.stopReq] using (hcontrol.of_phase_blank hb).2
    exact .inr ⟨⟨hcontrol.phase_ne_idle hp.enabled he, hrun.trans hp.running, hreq.trans hp.stopReq,
      hhc.trans hp.waiting⟩, hcontrol.stepsToExit_lt hcfg hp.enabled he hblank⟩

theorem StopPending.nextTurn {s : State} (hp : StopPending s) : StopPending s.nextTurn.2 :=
  ⟨by simpa using hp.enabled, by simpa using hp.running, by simpa using hp.stopReq,
    by simpa using hp.waiting⟩

/-- In every run a pending STOP is honoured, unless a reset comes (43_scheduler.md R154 (c)). -/
theorem IsRun.stopHonoured_eventually {run : Nat → State} (hrun : IsRun run) (n : Nat)
    (hp : StopPending (run n)) :
    ∃ m, n ≤ m ∧ (StopHonoured (run m) ∨ (run m).nextTurn.1 = .reset) := by
  refine hrun.eventually (P := StopPending)
    (Q := fun s => StopHonoured s ∨ s.nextTurn.1 = .reset) State.stepsToExit ?_ n hp
  intro s t h hp hn
  have hsame := s.nextTurn_engineSame.stepsToExit_eq
  rcases step_cases h with ⟨io, -, h⟩ | ⟨hh, h⟩ | ⟨hr, -⟩
  · rcases hp.nextTurn.engineStep h with ht | ⟨ht, hlt⟩
    · exact .inl (.inl ht)
    · exact .inr ⟨ht, by omega, fun _ => by omega⟩
  · rw [hostStep_stop_waits hp.nextTurn.waiting hp.nextTurn.running] at h
    cases h
    exact .inr ⟨hp.nextTurn, by omega, fun ⟨io, hio⟩ => by simp [hh] at hio⟩
  · exact absurd (.inr hr) hn

/-! ### A running engine blanks the panel -/

/-- The phase is one that writes `OE_n <- 1` (41_row_scan.md R113, R129, R130). -/
def WritesBlank (s : State) : Prop := s.phase = .blank ∨ s.phase = .frameEnd ∨ s.phase = .exit

/-- The next turn is an engine step whose write of `OE_n <- 1` fails (60_exceptions.md R180, R181). -/
def BlankingFails (s : State) : Prop :=
  s.cfg.hasIoErr = true ∧ s.nextTurn.1 = .engine true ∧ WritesBlank s

/-- A write of `OE_n <- 1` that does not fail blanks the panel. -/
theorem exec_phaseInstr_blanks {s t : State} (h : exec (phaseInstr s.phase) s = .next t)
    (hw : WritesBlank s) (hok : s.ioFails = false) : t.pinOeN = true := by
  have hpin : (s.pinWrite (.oeN true)).pinOeN = true := ((s.pinWrite_spec (.oeN true)).1 hok).1
  rcases hw with hp | hp | hp <;> rw [hp] at h <;> cases h <;> exact hpin

theorem engineStep_blanks {s t : State} {io : Bool} (h : engineStep io s = .next t)
    (hw : WritesBlank s) (hok : (s.cfg.hasIoErr && io) = false) : t.pinOeN = true :=
  exec_phaseInstr_blanks (s := { s with ioErr := io }) h hw hok

/-- How many engine steps a running engine takes at most to a phase that writes `OE_n <- 1`. -/
def State.stepsToBlanking (s : State) : Nat := if s.phase = .blank then 0 else s.stepsToExit

theorem EngineSame.stepsToBlanking_eq {s t : State} (h : EngineSame s t) :
    t.stepsToBlanking = s.stepsToBlanking := by
  simp [State.stepsToBlanking, h.phase, h.stepsToExit_eq]

/-- Every engine step but those that write `OE_n <- 1` brings such a write nearer. -/
theorem ControlStep.stepsToBlanking_lt {s t : State} (h : ControlStep s t) (hcfg : t.cfg = s.cfg)
    (hi : s.phase ≠ .idle) (hw : ¬ WritesBlank s) : t.stepsToBlanking < s.stepsToBlanking := by
  obtain ⟨hb, -, he⟩ : s.phase ≠ .blank ∧ s.phase ≠ .frameEnd ∧ s.phase ≠ .exit := by
    simpa [WritesBlank] using hw
  unfold State.stepsToBlanking
  rw [if_neg hb]
  split
  · next ht => simp [State.stepsToExit, (h.of_phase_blank ht).1]
  · next ht => exact h.stepsToExit_lt hcfg hi he ht

/-- A running engine's step blanks the panel or brings the next write of `OE_n <- 1` nearer, unless it is
such a write and fails. -/
theorem engineStep_nears_blanking {s t : State} {io : Bool} (h : engineStep io s = .next t)
    (hi : s.phase ≠ .idle) (hok : WritesBlank s → (s.cfg.hasIoErr && io) = false) :
    t.pinOeN = true ∨
      ((EngineEnabled t ∧ t.running = s.running) ∧ t.stepsToBlanking < s.stepsToBlanking) := by
  by_cases hw : WritesBlank s
  · exact .inl (engineStep_blanks h hw (hok hw))
  · have he : s.phase ≠ .exit := fun he => hw (.inr (.inr he))
    obtain ⟨hcfg, -, hflags⟩ := engineStep_frame h
    have hcontrol := engineStep_control h
    exact .inr ⟨⟨hcontrol.phase_ne_idle hi he, (hflags he).1⟩,
      hcontrol.stepsToBlanking_lt hcfg hi hw⟩

/-- In every run a running engine blanks the panel some time, unless a write of `OE_n <- 1` fails or a
reset comes (70_reset_and_hazards.md R203). -/
theorem IsRun.blanked_eventually {run : Nat → State} (hrun : IsRun run) (n : Nat)
    (hi : EngineEnabled (run n)) (hr : (run n).running = true) :
    ∃ m, n ≤ m ∧ ((run m).pinOeN = true ∨ BlankingFails (run m) ∨ (run m).nextTurn.1 = .reset) := by
  refine hrun.eventually (P := fun s => EngineEnabled s ∧ s.running = true)
    (Q := fun s => s.pinOeN = true ∨ BlankingFails s ∨ s.nextTurn.1 = .reset)
    State.stepsToBlanking ?_ n ⟨hi, hr⟩
  rintro s t h ⟨hi, hr⟩ hn
  have hsame := s.nextTurn_engineSame
  rcases step_cases h with ⟨io, hio, h⟩ | ⟨hh, h⟩ | ⟨hreset, -⟩
  · have hok : WritesBlank s.nextTurn.2 → (s.nextTurn.2.cfg.hasIoErr && io) = false := by
      intro hw
      by_contra hfail
      obtain ⟨hcfg, rfl⟩ : s.cfg.hasIoErr = true ∧ io = true := by simpa using hfail
      exact hn (.inr (.inl ⟨hcfg, hio, by simpa [WritesBlank] using hw⟩))
    rcases engineStep_nears_blanking h (by simpa using hi) hok with ht | ⟨⟨ht, hrun'⟩, hlt⟩
    · exact .inl (.inl ht)
    · rw [hsame.stepsToBlanking_eq] at hlt
      exact .inr ⟨⟨ht, by simpa [hr] using hrun'⟩, hlt.le, fun _ => hlt⟩
  · have hall := hsame.trans (hostStep_engineSame h (by simpa using hr))
    exact .inr ⟨⟨by simpa [EngineEnabled, hall.phase] using hi, hall.running.trans hr⟩,
      hall.stepsToBlanking_eq.le, fun ⟨io, hio⟩ => by simp [hh] at hio⟩
  · exact absurd (.inr (.inr hreset)) hn

/-! ### The settlement -/

/-- A reset stops the engine and blanks the panel (70_reset_and_hazards.md R195). -/
theorem step_reset {s t : State} (h : step s = .next t) (hr : s.nextTurn.1 = .reset) :
    t.running = false ∧ t.pinOeN = true := by
  unfold step at h
  rw [hr] at h
  cases h
  exact ⟨rfl, rfl⟩

/-- The scheduler flags of a state with a stop request are those of a pending STOP. -/
theorem SchedulerOk.stopPending {s : State} (h : SchedulerOk s) (hq : s.stopReq = true) :
    StopPending s := by
  obtain ⟨hidle, hrun, hstop, -⟩ := h
  have hr := hrun hq
  exact ⟨fun hp => by simp [hidle.2 hp] at hr, hr, hq, hstop hq⟩

/-- Settles O60: the three parts are `IsRun.engineTurn_eventually`, `IsRun.stopHonoured_eventually` and
`IsRun.blanked_eventually`; where the run meets a reset instead, the state after it stands for the end. -/
theorem everyRunIsWeaklyFairToTheEngine : Obligations.EveryRunIsWeaklyFairToTheEngine := by
  unfold Obligations.EveryRunIsWeaklyFairToTheEngine
  intro run hrun
  refine ⟨fun n _ => hrun.engineTurn_eventually n, fun n hs _ hq => ?_, fun n hs _ hr => ?_⟩
  · obtain ⟨m, hm, ⟨hstopped, hwaits⟩ | hreset⟩ :=
      hrun.stopHonoured_eventually n (hs.stopPending hq)
    · exact ⟨m, hm, hstopped, .inl hwaits⟩
    · exact ⟨m + 1, by omega, (step_reset (hrun m) hreset).1, .inr ⟨m, hm, by omega, hreset⟩⟩
  · have hi : EngineEnabled (run n) := fun hp => by simp [hs.1.2 hp] at hr
    obtain ⟨m, hm, hblank | hfails | hreset⟩ := hrun.blanked_eventually n hi hr
    · exact ⟨m, hm, .inl hblank⟩
    · exact ⟨m, hm, .inr hfails⟩
    · exact ⟨m + 1, by omega, .inl (step_reset (hrun m) hreset).2⟩

end Sys2Proof.Machine

/-! ## What every host and engine step keeps -/

namespace Sys2Proof.Machine

open Sys2Proof

/-! ### The step rule for invariants -/

/-- The rule for an invariant: taking the turn keeps it, and so do an engine step, a host step and the
reset move; then every step keeps it. -/
theorem step_keeps {P : State → Prop} (hturn : ∀ s, P s → P s.nextTurn.2)
    (hengine : ∀ s t io, P s → engineStep io s = .next t → P t)
    (hhost : ∀ s t, P s → hostStep s = .next t → P t) (hreset : ∀ s, P s → P s.assertReset)
    {s t : State} (hs : P s) (h : step s = .next t) : P t := by
  have hP := hturn s hs
  rcases step_cases h with ⟨io, -, h⟩ | ⟨-, h⟩ | ⟨-, rfl⟩
  · exact hengine _ _ io hP h
  · exact hhost _ _ hP h
  · exact hreset _ hP

/-! ### What a host step can do -/

/-- The instructions that a command word can select (30_encoding.md R77). -/
inductive IsCommand : Instr → Prop where
  | setpixel (x y : Int) (r g b : Byte) : IsCommand (.setpixel x y r g b)
  | getpixel (x y : Int) : IsCommand (.getpixel x y)
  | clear (r g b : Byte) : IsCommand (.clear r g b)
  | fillrect (x y w h : Int) (r g b : Byte) : IsCommand (.fillrect x y w h r g b)
  | setbright (v : Int) : IsCommand (.setbright v)
  | present : IsCommand .present
  | start : IsCommand .start
  | stop : IsCommand .stop
  | getstatus : IsCommand .getstatus

theorem decodeCommand_isCommand {cw : CommandWord} {i : Instr} (h : decodeCommand cw = .ok i) :
    IsCommand i := by
  unfold decodeCommand at h
  split at h <;> cases h <;> constructor

/-- `s` with the framebuffer, the brightness, the port and the outputs of `t`: what a command of the Pixel
API may change (60_exceptions.md R188). -/
def State.withPortOf (s t : State) : State :=
  { s with
    fb := t.fb, brightness := t.brightness, hc := t.hc, cmds := t.cmds, draws := t.draws, trace := t.trace }

/-- What a host step can do: which of the block's items outside `State.withPortOf` it changes, and where
the port stands before and after it. -/
inductive HostEffect (s t : State) : Prop where
  /-- The host presents no word, a command of the Pixel API begins or goes on, or LifecycleMisuse. -/
  | pixel (hc : s.hc ≠ .stopping) (hc' : t.hc ≠ .stopping) (frame : s.withPortOf t = t)
  /-- IllegalCommand (60_exceptions.md R184). -/
  | illegal (hc : s.hc = .idle) (hc' : t.hc = .idle)
    (frame : { s.withPortOf t with status := s.status ||| 0b10#2 } = t)
  /-- START at a stopped engine (43_scheduler.md R151). -/
  | start (hc : s.hc = .idle) (hc' : t.hc = .idle) (stopped : s.running = false)
    (frame : { s.withPortOf t with
      running := true, stopReq := false, row := 0#5, col := 0#6, phase := .rowCheck } = t)
  /-- STOP at a running engine (43_scheduler.md R153). -/
  | stop (hc : s.hc = .idle) (hc' : t.hc = .stopping) (running : s.running = true)
    (frame : { s.withPortOf t with stopReq := true } = t)
  /-- A STOP waits for the engine (43_scheduler.md R154). -/
  | wait (hc : s.hc = .stopping) (running : s.running = true) (same : t = s)
  /-- A STOP answers (43_scheduler.md R153). -/
  | answer (hc : s.hc = .stopping) (hc' : t.hc = .idle) (stopped : s.running = false)
    (frame : s.withPortOf t = t)

@[simp] theorem State.nextWord_withPortOf (s t : State) : s.nextWord.2.withPortOf t = s.withPortOf t := by
  unfold State.nextWord
  split <;> rfl

/-- Taking the word is no effect of its own. -/
theorem HostEffect.of_nextWord {s t : State} (h : HostEffect s.nextWord.2 t) (hidle : s.hc = .idle) :
    HostEffect s t := by
  cases h
  case pixel hc hc' hf => exact .pixel (by simpa using hc) hc' (by simpa using hf)
  case illegal hc hc' hf => exact .illegal hidle hc' (by simpa using hf)
  case start hc hc' hr hf => exact .start hidle hc' (by simpa using hr) (by simpa using hf)
  case stop hc hc' hr hf => exact .stop hidle hc' (by simpa using hr) (by simpa using hf)
  case wait hc hr hs => simp [hidle] at hc
  case answer hc hc' hr hf => simp [hidle] at hc

theorem State.clearStep_effect {s : State} (i : Fin 4096) (r g b : Byte) (hc : s.hc ≠ .stopping) :
    HostEffect s (s.clearStep i r g b) := by
  refine .pixel hc ?_ ?_
  · rw [State.clearStep_hc]; split <;> simp
  · unfold State.clearStep; split <;> rfl

theorem State.fillStep_effect {s : State} (dx dy : Nat) (x y w h : Int) (r g b : Byte)
    (hc : s.hc ≠ .stopping) : HostEffect s (s.fillStep dx dy x y w h r g b) := by
  refine .pixel hc ?_ ?_
  · rw [State.fillStep_hc]; split_ifs <;> simp
  · unfold State.fillStep State.putPixel; split_ifs <;> rfl

theorem State.stopStep_effect {s : State} (hc : s.hc = .stopping) : HostEffect s s.stopStep := by
  unfold State.stopStep
  split
  · next hr => exact .wait hc hr rfl
  · next hr => exact .answer hc rfl (by simpa using hr) rfl

/-- What a command does in the step in which the port accepts it. -/
theorem exec_command_effect {i : Instr} {s t : State} (hi : IsCommand i) (h : exec i s = .next t)
    (hc : s.hc = .idle) : HostEffect s t := by
  have hns : s.hc ≠ .stopping := by simp [hc]
  cases hi <;> cases h
  case setpixel =>
    refine .pixel hns (by simp [hc]) ?_
    unfold State.putPixel; split <;> rfl
  case getpixel => split <;> exact .pixel hns hns rfl
  case clear => exact s.clearStep_effect _ _ _ _ hns
  case fillrect =>
    split
    · exact .pixel hns hns rfl
    · exact s.fillStep_effect _ _ _ _ _ _ _ _ _ hns
  case start =>
    split
    · exact .pixel hns hns rfl
    · next hr => exact .start hc hc (by simpa using hr) rfl
  case stop =>
    split
    · next hr => exact .stop hc rfl hr rfl
    · exact .pixel hns hns rfl
  all_goals exact .pixel hns hns rfl

/-- Every host step has one of these effects. -/
theorem hostStep_effect {s t : State} (h : hostStep s = .next t) : HostEffect s t := by
  rcases hostStep_cases h with ⟨hc, -, rfl⟩ | ⟨hc, cw, i, -, hd, h⟩ | ⟨hc, cw, e, -, -, rfl⟩ |
    ⟨i, r, g, b, hc, rfl⟩ | ⟨dx, dy, x, y, w, k, r, g, b, hc, rfl⟩ | ⟨hc, rfl⟩
  · refine HostEffect.of_nextWord (.pixel ?_ ?_ rfl) hc <;> simp [hc]
  · exact (exec_command_effect (decodeCommand_isCommand hd) h (by simp [hc])).of_nextWord hc
  · refine HostEffect.of_nextWord (.illegal ?_ ?_ rfl) hc <;> simp [hc]
  · exact s.clearStep_effect i r g b (by simp [hc])
  · exact s.fillStep_effect dx dy x y w k r g b (by simp [hc])
  · exact s.stopStep_effect hc

/-- No host step touches the row buffer, the dwell counter or the configuration (60_exceptions.md R188). -/
theorem HostEffect.frame {s t : State} (h : HostEffect s t) :
    t.cfg = s.cfg ∧ t.rowbuf = s.rowbuf ∧ t.dwellCnt = s.dwellCnt := by
  cases h
  case wait => subst t; exact ⟨rfl, rfl, rfl⟩
  case pixel _ _ hf | illegal _ _ hf | start _ _ _ hf | stop _ _ _ hf | answer _ _ _ hf =>
    rw [← hf]; exact ⟨rfl, rfl, rfl⟩

end Sys2Proof.Machine

/-! ## O37: the scheduler flags -/

namespace Sys2Proof.Machine

open Sys2Proof

/-- Where no STOP waits, before or after, and flags and phase stand, the scheduler flags stay consistent. -/
theorem SchedulerOk.of_same {s t : State} (hs : SchedulerOk s) (hc : s.hc ≠ .stopping)
    (hc' : t.hc ≠ .stopping) (hrun : t.running = s.running) (hreq : t.stopReq = s.stopReq)
    (hphase : t.phase = s.phase) : SchedulerOk t := by
  obtain ⟨hidle, hreq_run, hreq_stop, -⟩ := hs
  unfold SchedulerOk
  rw [hrun, hreq, hphase]
  exact ⟨hidle, hreq_run, fun hq => absurd (hreq_stop hq) hc, fun hst => absurd hst hc'⟩

/-- No effect of a host step upsets the scheduler flags. -/
theorem HostEffect.schedulerOk {s t : State} (h : HostEffect s t) (hs : SchedulerOk s) :
    SchedulerOk t := by
  cases h
  case pixel hc hc' hf =>
    exact hs.of_same hc hc' (congrArg State.running hf).symm (congrArg State.stopReq hf).symm
      (congrArg State.phase hf).symm
  case illegal hc hc' hf =>
    exact hs.of_same (by simp [hc]) (by simp [hc']) (congrArg State.running hf).symm
      (congrArg State.stopReq hf).symm (congrArg State.phase hf).symm
  case start hc hc' hr hf =>
    have hrun : t.running = true := by rw [← hf]
    have hreq : t.stopReq = false := by rw [← hf]
    have hphase : t.phase = .rowCheck := by rw [← hf]
    simp [SchedulerOk, hrun, hreq, hphase, hc']
  case stop hc hc' hr hf =>
    have hrun : t.running = true := by rw [← hf]; exact hr
    have hreq : t.stopReq = true := by rw [← hf]
    have hphase : t.phase ≠ .idle := by
      obtain ⟨hidle, -⟩ := hs
      rw [← hf]
      exact fun hp => by simp [hidle.2 hp] at hr
    simp [SchedulerOk, hrun, hreq, hphase, hc']
  case wait hc hr hsame => exact hsame ▸ hs
  case answer hc hc' hr hf =>
    obtain ⟨hidle, hreq_run, -, -⟩ := hs
    have hrun : t.running = false := by rw [← hf]; exact hr
    have hreq : t.stopReq = false := by
      rw [← hf]
      exact Bool.eq_false_iff.2 fun hq => by simpa [hr] using hreq_run hq
    have hphase : t.phase = .idle := by rw [← hf]; exact hidle.1 hr
    simp [SchedulerOk, hrun, hreq, hphase, hc']

/-- EXIT leaves the engine stopped in IDLE without a stop request (41_row_scan.md R130). -/
theorem exec_exit_flags {s t : State} (h : exec .exit s = .next t) :
    t.running = false ∧ t.stopReq = false ∧ t.phase = .idle := by
  cases h
  exact ⟨rfl, rfl, rfl⟩

/-- No engine step but EXIT enters IDLE, and none leaves it (41_row_scan.md R111). -/
theorem ControlStep.phase_idle_iff {s t : State} (h : ControlStep s t) (he : s.phase ≠ .exit) :
    t.phase = .idle ↔ s.phase = .idle := by
  refine ⟨fun ht => by_contra fun hi => h.phase_ne_idle hi he ht, fun hi => ?_⟩
  simpa [ControlStep, hi] using h

/-- A micro-operation keeps the scheduler flags consistent: EXIT clears them together, every other one
leaves them alone. -/
theorem exec_phaseInstr_schedulerOk {s t : State} (h : exec (phaseInstr s.phase) s = .next t)
    (hs : SchedulerOk s) : SchedulerOk t := by
  obtain ⟨-, hhc, hflags⟩ := exec_phaseInstr_frame h
  by_cases he : s.phase = .exit
  · rw [he] at h
    obtain ⟨hrun, hreq, hphase⟩ := exec_exit_flags h
    simp [SchedulerOk, hrun, hreq, hphase]
  · obtain ⟨hrun, hreq⟩ := hflags he
    unfold SchedulerOk
    rw [hrun, hreq, hhc, (exec_phaseInstr_control h).phase_idle_iff he]
    exact hs

theorem State.resetOf_schedulerOk (c : Configuration) (p : Panel) :
    SchedulerOk (State.resetOf c p) := by
  simp [SchedulerOk, State.resetOf]

/-- Settles O37: EXIT is the one engine step that changes the flags (`exec_phaseInstr_schedulerOk`), and
START and STOP are the host steps that do (`HostEffect.schedulerOk`). -/
theorem everyStepKeepsTheSchedulerFlagsConsistent :
    Obligations.EveryStepKeepsTheSchedulerFlagsConsistent := by
  unfold Obligations.EveryStepKeepsTheSchedulerFlagsConsistent
  intro s t hs h
  exact step_keeps (P := SchedulerOk) (fun s hs => by simpa [SchedulerOk] using hs)
    (fun s _ io hs h => exec_phaseInstr_schedulerOk (s := { s with ioErr := io }) h hs)
    (fun _ _ hs h => (hostStep_effect h).schedulerOk hs)
    (fun s _ => State.resetOf_schedulerOk s.cfg s.panel) hs h

end Sys2Proof.Machine

/-! ## O38: the row buffer -/

namespace Sys2Proof.Machine

open Sys2Proof

/-- Bits 7 and 6 of a packed word are 0 (30_encoding.md R72). -/
theorem packWord_toNat_lt (upper lower : BitVec 3) : (packWord upper lower).toNat < 64 := by
  revert upper lower
  decide

theorem State.setRowWord_rowbufOk {s : State} (c : BitVec 6) {w : Byte} (hs : RowbufOk s)
    (hw : w.toNat < 64) : RowbufOk (s.setRowWord c w) := by
  intro k hk
  simp only [State.setRowWord_rowbuf, Vector.getElem_set]
  split
  · exact hw
  · exact hs k hk

/-- No micro-operation but PACK_L touches the row buffer. -/
theorem exec_phaseInstr_rowbuf {s t : State} (h : exec (phaseInstr s.phase) s = .next t)
    (hp : s.phase ≠ .packL) : t.rowbuf = s.rowbuf := by
  cases hq : s.phase <;> rw [hq] at h <;> cases h
  case packL => exact absurd hq hp
  case dwell => split <;> simp
  all_goals simp

/-- PACK_L stores a packed word (41_row_scan.md R117). -/
theorem exec_packL_rowbufOk {s t : State} (h : exec .packL s = .next t) (hs : RowbufOk s) :
    RowbufOk t := by
  cases h
  have hset := State.setRowWord_rowbufOk s.col hs (packWord_toNat_lt s.pixTmp
    (quantizePixel (s.pixRead s.col.toNat (s.row.toNat + 32)) s.brightLat))
  simpa [RowbufOk] using hset

theorem exec_phaseInstr_rowbufOk {s t : State} (h : exec (phaseInstr s.phase) s = .next t)
    (hs : RowbufOk s) : RowbufOk t := by
  by_cases hp : s.phase = .packL
  · rw [hp] at h
    exact exec_packL_rowbufOk h hs
  · simpa [RowbufOk, exec_phaseInstr_rowbuf h hp] using hs

theorem State.resetOf_rowbufOk (c : Configuration) (p : Panel) : RowbufOk (State.resetOf c p) := by
  intro k hk
  simp [State.resetOf]

/-- Settles O38: `packWord_toNat_lt` bounds the words that PACK_L stores. -/
theorem everyStepKeepsRowbufTopBitsZero : Obligations.EveryStepKeepsRowbufTopBitsZero := by
  unfold Obligations.EveryStepKeepsRowbufTopBitsZero
  intro s t hs h
  exact step_keeps (P := RowbufOk) (fun s hs => by simpa [RowbufOk] using hs)
    (fun s _ io hs h => exec_phaseInstr_rowbufOk (s := { s with ioErr := io }) h hs)
    (fun _ _ hs h => by simpa [RowbufOk, (hostStep_effect h).frame] using hs)
    (fun s _ => State.resetOf_rowbufOk s.cfg s.panel) hs h

end Sys2Proof.Machine

/-! ## O39: the dwell counter and the FILLRECT position -/

namespace Sys2Proof.Machine

open Sys2Proof

/-- OE_ON loads a count below DWELL_TICKS, and DWELL counts down (41_row_scan.md R126, R127). -/
theorem exec_phaseInstr_dwellOk {s t : State} (h : exec (phaseInstr s.phase) s = .next t)
    (hs : DwellOk s) : DwellOk t := by
  unfold DwellOk at hs ⊢
  rw [(exec_phaseInstr_frame h).1]
  cases hp : s.phase <;> rw [hp] at h <;> cases h
  case oeOn => exact Nat.sub_one_lt_of_lt hs
  case dwell =>
    split
    · exact (Nat.sub_le _ _).trans_lt hs
    · simpa using hs
  all_goals simpa using hs

/-- The invariant speaks of `hc` alone. -/
theorem PortOk.of_hc {s t : State} (hs : PortOk s) (h : t.hc = s.hc) : PortOk t := by
  unfold PortOk at hs ⊢
  rw [h]
  exact hs

/-- A FILLRECT in progress stands inside its rectangle (10_state.md R38). -/
theorem portOk_filling {s : State} {dx dy : Nat} {x y w h : Int} {r g b : Byte}
    (hc : s.hc = .filling dx dy x y w h r g b) :
    PortOk s ↔ (dx : Int) < w ∧ (dy : Int) < h ∧ fitsSext16 x = true ∧ fitsSext16 y = true ∧
      fitsSext16 w = true ∧ fitsSext16 h = true := by
  simp [PortOk, hc]

theorem portOk_idle {s : State} (hc : s.hc = .idle) : PortOk s := by simp [PortOk, hc]

/-- A FILLRECT step inside the rectangle goes on inside it, or ends the command (40_pixel_api.md R94). -/
theorem State.fillStep_portOk (s : State) {dx dy : Nat} {x y w h : Int} (r g b : Byte) (hw : 0 < w)
    (hfits : fitsSext16 x = true ∧ fitsSext16 y = true ∧ fitsSext16 w = true ∧ fitsSext16 h = true)
    (hdy : (dy : Int) < h) : PortOk (s.fillStep dx dy x y w h r g b) := by
  have hc := s.fillStep_hc dx dy x y w h r g b
  split_ifs at hc with hx hy
  · exact (portOk_filling hc).2 ⟨by omega, hdy, hfits⟩
  · exact (portOk_filling hc).2 ⟨by omega, by omega, hfits⟩
  · exact portOk_idle hc

theorem State.clearStep_portOk (s : State) (i : Fin 4096) (r g b : Byte) :
    PortOk (s.clearStep i r g b) := by
  unfold PortOk
  rw [State.clearStep_hc]
  split_ifs <;> trivial

/-- A number read from a 16-bit field fits it (30_encoding.md R76). -/
theorem fitsSext16_toInt (v : BitVec 16) : fitsSext16 v.toInt = true := by
  have hlo := v.le_toInt
  have hhi := v.toInt_lt
  simp only [fitsSext16, Bool.and_eq_true, decide_eq_true_eq]
  omega

/-- Every decoded command is well formed (30_encoding.md R76). -/
theorem decodeCommand_wf {cw : CommandWord} {i : Instr} (h : decodeCommand cw = .ok i) :
    i.wf = true := by
  unfold decodeCommand at h
  split at h <;> cases h <;>
    simp only [Instr.wf, cwX, cwY, cwW, cwH, fitsSext16_toInt, Bool.and_self]

/-- FILLRECT starts at the corner of a rectangle that is not empty. -/
theorem exec_fillrect_portOk {x y w h : Int} {r g b : Byte} {s t : State}
    (hi : (Instr.fillrect x y w h r g b).wf = true) (he : exec (.fillrect x y w h r g b) s = .next t)
    (hs : PortOk s) : PortOk t := by
  simp only [Instr.wf, Bool.and_eq_true, and_assoc] at hi
  cases he
  split
  · exact hs
  · next hne => exact s.fillStep_portOk r g b (by omega) hi (by omega)

theorem exec_command_portOk {i : Instr} {s t : State} (hi : IsCommand i) (hwf : i.wf = true)
    (h : exec i s = .next t) (hs : PortOk s) : PortOk t := by
  cases hi
  case clear => cases h; exact s.clearStep_portOk _ _ _ _
  case fillrect => exact exec_fillrect_portOk hwf h hs
  case setpixel => cases h; exact hs.of_hc (by simp)
  case stop => cases h; split <;> [trivial; exact hs]
  case getpixel | start => cases h; split <;> exact hs
  all_goals cases h; exact hs

theorem hostStep_portOk {s t : State} (h : hostStep s = .next t) (hs : PortOk s) : PortOk t := by
  have hword : PortOk s.nextWord.2 := hs.of_hc (by simp)
  rcases hostStep_cases h with ⟨-, -, rfl⟩ | ⟨-, cw, i, -, hd, h⟩ | ⟨-, cw, e, -, -, rfl⟩ |
    ⟨i, r, g, b, -, rfl⟩ | ⟨dx, dy, x, y, w, k, r, g, b, hc, rfl⟩ | ⟨hc, rfl⟩
  · exact hword
  · exact exec_command_portOk (decodeCommand_isCommand hd) (decodeCommand_wf hd) h hword
  · exact hword.of_hc (by simp)
  · exact s.clearStep_portOk i r g b
  · obtain ⟨hdx, hdy, hfits⟩ := (portOk_filling hc).1 hs
    exact s.fillStep_portOk r g b (by omega) hfits hdy
  · unfold State.stopStep
    split
    · exact hs
    · exact portOk_idle rfl

/-- No host step touches the dwell counter, and a reset that clears it leaves it no higher. -/
theorem step_dwellOk {s t : State} (h : step s = .next t) (hs : DwellOk s) : DwellOk t := by
  refine step_keeps (P := DwellOk) (fun s hs => by simpa [DwellOk] using hs)
    (fun s _ io hs h => exec_phaseInstr_dwellOk (s := { s with ioErr := io }) h hs)
    (fun _ _ hs h => ?_) (fun s hs => Nat.zero_lt_of_lt hs) hs h
  simpa [DwellOk, (hostStep_effect h).frame] using hs

/-- No engine step touches the port, and a reset leaves it idle. -/
theorem step_portOk {s t : State} (h : step s = .next t) (hs : PortOk s) : PortOk t :=
  step_keeps (P := PortOk) (fun s hs => hs.of_hc (by simp))
    (fun _ _ _ hs h => hs.of_hc (engineStep_frame h).2.1) (fun _ _ hs h => hostStep_portOk h hs)
    (fun _ _ => portOk_idle rfl) hs h

/-- Settles O39: `step_dwellOk` and `step_portOk`. -/
theorem everyStepKeepsTheCountersInRange : Obligations.EveryStepKeepsTheCountersInRange := by
  unfold Obligations.EveryStepKeepsTheCountersInRange
  exact fun s t h => ⟨step_dwellOk h, step_portOk h⟩

end Sys2Proof.Machine

/-! ## O47: the sticky flags -/

namespace Sys2Proof.Machine

open Sys2Proof

/-- `PinWrite` leaves `status` alone or sets PF (60_exceptions.md R180). -/
theorem State.pinWrite_status (s : State) (w : PinWrite) :
    ∃ m, (s.pinWrite w).status = s.status ||| m := by
  obtain ⟨hok, hfails, -, -⟩ := s.pinWrite_spec w
  cases hio : s.ioFails
  · exact ⟨0#2, by simp [(hok hio).2.1]⟩
  · obtain ⟨-, -, hst, -⟩ := hfails hio
    exact ⟨0b01#2, hst⟩

/-- A micro-operation changes `status` through its pin writes alone. -/
theorem exec_phaseInstr_status {s t : State} (h : exec (phaseInstr s.phase) s = .next t) :
    ∃ m, t.status = s.status ||| m := by
  cases hp : s.phase <;> rw [hp] at h <;> cases h
  case idle | rowCheck | latchb | packU | packL => exact ⟨0#2, by simp⟩
  case dwell => refine ⟨0#2, ?_⟩; split <;> simp
  case data | clkHi | clkLo | addr | latHi | latLo | blank | oeOn | frameEnd | exit =>
    simpa using s.pinWrite_status _

/-- A host step leaves `status` alone or sets IC (60_exceptions.md R184). -/
theorem HostEffect.status {s t : State} (h : HostEffect s t) : ∃ m, t.status = s.status ||| m := by
  cases h
  case illegal hc hc' hf => exact ⟨0b10#2, by rw [← hf]⟩
  case wait hc hr hsame => exact ⟨0#2, by simp [hsame]⟩
  case pixel _ _ hf | start _ _ _ hf | stop _ _ _ hf | answer _ _ _ hf =>
    exact ⟨0#2, by rw [← hf]; simp [State.withPortOf]⟩

/-- A step that is not a reset only sets bits of `status` (10_state.md R25). -/
theorem step_status {s t : State} (h : step s = .next t) (hr : s.nextTurn.1 ≠ .reset) :
    ∃ m, t.status = s.status ||| m := by
  rcases step_cases h with ⟨io, -, h⟩ | ⟨-, h⟩ | ⟨hreset, -⟩
  · simpa using exec_phaseInstr_status (s := { s.nextTurn.2 with ioErr := io }) h
  · simpa using (hostStep_effect h).status
  · exact absurd hreset hr

/-- Settles O47: a bit that is set stays set when other bits are set (`step_status`). -/
theorem statusFlagsAreSticky : Obligations.StatusFlagsAreSticky := by
  unfold Obligations.StatusFlagsAreSticky
  intro s t h hr
  obtain ⟨m, hm⟩ := step_status h hr
  simp +contextual [State.pf, State.ic, hm]

end Sys2Proof.Machine

/-! ## O50, O51: where the engine reads `stop_req` and `brightness` -/

namespace Sys2Proof.Machine

open Sys2Proof

/-- `s` with these values of the two registers by which the host steers the engine (10_state.md R22, R24). -/
def State.withSteering (s : State) (stopReq : Bool) (brightness : Byte) : State :=
  { s with stopReq := stopReq, brightness := brightness }

/-- A pin write reads neither register. -/
theorem State.pinWrite_withSteering (s : State) (q : Bool) (b : Byte) (w : PinWrite) :
    (s.withSteering q b).pinWrite w = (s.pinWrite w).withSteering q b := by
  have hio : (s.withSteering q b).ioFails = s.ioFails := State.ioFails_congr _ _ rfl rfl
  cases h : s.ioFails
  · rw [State.pinWrite_ok w h, State.pinWrite_ok w (hio.trans h)]
    cases w <;> rfl
  · rw [State.pinWrite_fails w h, State.pinWrite_fails w (hio.trans h)]
    cases w <;> rfl

theorem State.nextCol_withSteering (s : State) (q : Bool) (b : Byte) (more last : Phase) :
    (s.withSteering q b).nextCol more last = (s.nextCol more last).withSteering q b := by
  unfold State.nextCol
  split_ifs <;> first | rfl | contradiction

theorem State.advanceRow_withSteering (s : State) (q : Bool) (b : Byte) :
    (s.withSteering q b).advanceRow = s.advanceRow.withSteering q b := by
  unfold State.advanceRow
  split_ifs <;> first | rfl | contradiction

/-- A micro-operation carries both registers along unread, but for ROW_CHECK, which reads `stop_req`, and
LATCHB, which reads `brightness`; EXIT clears `stop_req` (41_row_scan.md R112, R115, R130). -/
theorem exec_phaseInstr_withSteering {p : Phase} {s t : State} {q : Bool} {b : Byte}
    (h : exec (phaseInstr p) s = .next t) (hrow : p = .rowCheck → q = s.stopReq)
    (hlatch : p = .latchb → b = s.brightness) :
    exec (phaseInstr p) (s.withSteering q b) =
      .next (t.withSteering (if p = .exit then false else q) b) := by
  cases p <;> cases h
  case rowCheck => cases hrow rfl; rfl
  case latchb => cases hlatch rfl; rfl
  case idle | packU => rfl
  case packL =>
    exact congrArg Host.Outcome.next (State.nextCol_withSteering (s.setRowWord s.col _) q b _ _)
  case dwell =>
    by_cases hd : 0 < s.dwellCnt
    · simp only [phaseInstr, exec, execDwell, State.withSteering, hd, if_true]
      rfl
    · simp only [phaseInstr, exec, execDwell, State.withSteering, hd, if_false]
      exact congrArg Host.Outcome.next (s.advanceRow_withSteering q b)
  case clkLo =>
    simp only [phaseInstr, exec, execClkLo, State.pinWrite_withSteering, State.nextCol_withSteering]
    rfl
  all_goals
    simp only [phaseInstr, exec, execBlank, execData, execClkHi, execAddr, execLatHi, execLatLo,
      execOeOn, execFrameEnd, execExit, State.pinWrite_withSteering]
    rfl

/-- What a micro-operation leaves in both registers: `exec_phaseInstr_withSteering` at the values they
have. -/
theorem exec_phaseInstr_steering {p : Phase} {s t : State} (h : exec (phaseInstr p) s = .next t) :
    t.stopReq = (if p = .exit then false else s.stopReq) ∧ t.brightness = s.brightness := by
  have hsame := exec_phaseInstr_withSteering h (fun _ => rfl) (fun _ => rfl)
  rw [show s.withSteering s.stopReq s.brightness = s from rfl, h] at hsame
  injection hsame with heq
  exact ⟨(congrArg State.stopReq heq :), (congrArg State.brightness heq :)⟩

/-- Settles O50: `exec_phaseInstr_withSteering` with `brightness` as it is. -/
theorem stopReqIsReadOnlyAtRowCheck : Obligations.StopReqIsReadOnlyAtRowCheck := by
  unfold Obligations.StopReqIsReadOnlyAtRowCheck
  intro s io v hp
  obtain ⟨t, ht⟩ := exec_total (phaseInstr s.phase) { s with ioErr := io }
  refine ⟨t, _, ht,
    exec_phaseInstr_withSteering (q := v) (b := s.brightness) ht (absurd · hp) (fun _ => rfl), ?_⟩
  simpa [State.withSteering] using (exec_phaseInstr_steering ht).2

/-- Settles O51: `exec_phaseInstr_withSteering` with `stop_req` as it is. -/
theorem brightnessIsReadOnlyAtLatchb : Obligations.BrightnessIsReadOnlyAtLatchb := by
  unfold Obligations.BrightnessIsReadOnlyAtLatchb
  intro s io v hp
  obtain ⟨t, ht⟩ := exec_total (phaseInstr s.phase) { s with ioErr := io }
  refine ⟨t, _, ht,
    exec_phaseInstr_withSteering (q := s.stopReq) (b := v) ht (fun _ => rfl) (absurd · hp), ?_⟩
  simp [State.withSteering, (exec_phaseInstr_steering ht).1]

end Sys2Proof.Machine

/-! ## O42, O43: the reset state -/

namespace Sys2Proof.Machine

open Sys2Proof

/-- The identity pin assignment gives each role a pin of its own (30_encoding.md R70). -/
theorem configuration_pins :
    Config.configuration.pins.toList = List.ofFn fun k : Fin 14 => some k.val :=
  Vector.toList_ofFn

/-- The configuration of the reset state passes the tests of R177 (60_exceptions.md), whatever DWELL_TICKS. -/
theorem configuration_valid : Config.configuration.valid = true := by
  have hdwell : 1 ≤ Config.configuration.dwellTicks := Nat.le_add_left 1 Config.dwellExtra
  have hall : (List.ofFn fun k : Fin 14 => some k.val).all Option.isSome = true := by decide
  have hnodup : (List.ofFn fun k : Fin 14 => some k.val).Nodup :=
    List.nodup_ofFn.2 ((Option.some_injective _).comp Fin.val_injective)
  simp only [Configuration.valid, configuration_pins, hall, hnodup, hdwell]
  rfl

theorem State.reset_displayOk : DisplayOk State.reset := fun _ => ⟨rfl, rfl, rfl⟩

/-- Settles O42: the invariants one by one, the counters from DWELL_TICKS being at least 1. -/
theorem resetMeetsTheInvariants : Obligations.ResetMeetsTheInvariants := by
  unfold Obligations.ResetMeetsTheInvariants
  exact ⟨Memory.wf_nil, State.resetOf_schedulerOk _ _, State.resetOf_rowbufOk _ _,
    Nat.succ_pos Config.dwellExtra, portOk_idle rfl, ⟨rfl, rfl⟩, State.reset_displayOk,
    configuration_valid⟩

/-- Settles O43: `State.resetOf` writes these values out; the framebuffer lists no byte, so each reads 0. -/
theorem resetValues : Obligations.ResetValues := by
  unfold Obligations.ResetValues
  refine ⟨fun a => rfl, ?_⟩
  simp [State.reset, State.resetOf]

end Sys2Proof.Machine

/-! ## O36: the framebuffer -/

namespace Sys2Proof.Machine

open Sys2Proof

/-- Every instruction keeps the canonical form: SETPIXEL, CLEAR and FILLRECT write whole pixels inside the
panel, no other instruction writes the framebuffer (20_memory.md R50, R55). -/
theorem exec_memoryOk {i : Instr} {s t : State} (h : exec i s = .next t) (hs : MemoryOk s) :
    MemoryOk t := by
  cases i <;> cases h
  case setpixel x y r g b => exact s.putPixel_memoryOk x y r g b hs
  case clear r g b => exact s.clearStep_memoryOk 0 r g b hs
  case fillrect x y w k r g b =>
    split
    · exact hs
    · exact s.fillStep_memoryOk 0 0 x y w k r g b hs
  case getpixel | start | stop => split <;> exact hs
  case dwell => split <;> simpa [MemoryOk] using hs
  all_goals simpa [MemoryOk] using hs

theorem hostStep_memoryOk {s t : State} (h : hostStep s = .next t) (hs : MemoryOk s) : MemoryOk t := by
  have hword : MemoryOk s.nextWord.2 := by simpa [MemoryOk] using hs
  rcases hostStep_cases h with ⟨-, -, rfl⟩ | ⟨-, cw, i, -, -, h⟩ | ⟨-, cw, e, -, -, rfl⟩ |
    ⟨i, r, g, b, -, rfl⟩ | ⟨dx, dy, x, y, w, k, r, g, b, -, rfl⟩ | ⟨-, rfl⟩
  · exact hword
  · exact exec_memoryOk h hword
  · exact hword
  · exact s.clearStep_memoryOk i r g b hs
  · exact s.fillStep_memoryOk dx dy x y w k r g b hs
  · unfold State.stopStep
    split <;> exact hs

/-- Settles O36: every instruction and every later micro-step of a command keeps the canonical form
(`exec_memoryOk`, `hostStep_memoryOk`), and a reset empties the list. -/
theorem everyStepKeepsMemoryCanonical : Obligations.EveryStepKeepsMemoryCanonical := by
  unfold Obligations.EveryStepKeepsMemoryCanonical
  intro s t hs h
  exact step_keeps (P := MemoryOk) (fun s hs => by simpa [MemoryOk] using hs)
    (fun s _ io hs h => exec_memoryOk (s := { s with ioErr := io }) h hs)
    (fun _ _ hs h => hostStep_memoryOk h hs) (fun _ _ => Memory.wf_nil) hs h

end Sys2Proof.Machine

/-! ## O52: a host write between the two reads of a column -/

namespace Sys2Proof.Machine

open Sys2Proof

/-- A pixel read depends on the framebuffer alone (00_scope.md R8). -/
theorem State.pixRead_congr {s t : State} (h : t.fb = s.fb) (x y : Nat) :
    t.pixRead x y = s.pixRead x y := by
  unfold State.pixRead
  rw [h]

/-- SETPIXEL inside the panel writes the pixel and responds (40_pixel_api.md R91). -/
theorem exec_setpixel_in (s : State) {x y : Nat} (r g b : Byte) (hx : x < 64) (hy : y < 64) :
    exec (.setpixel x y r g b) s = .next ((s.pixWrite x y r g b).respond rspDone) := by
  have hin : inBounds x y = true := (inBounds_iff _ _).2 (by omega)
  simp [exec, execSetpixel, State.putPixel_in r g b hin]

/-- PACK_L packs `pix_tmp` with the lower pixel as it reads it now, and leaves the framebuffer alone
(41_row_scan.md R117). -/
theorem exec_packL_fb_rowWord {s t : State} (h : exec .packL s = .next t) :
    t.fb = s.fb ∧ t.rowWord s.col =
      packWord s.pixTmp (quantizePixel (s.pixRead s.col.toNat (s.row.toNat + 32)) s.brightLat) := by
  cases h
  simp [State.rowWord]

/-- PACK_U, a SETPIXEL inside the panel, PACK_L: the upper pixel is read before the write and the lower one
after it (20_memory.md R56, R59). -/
theorem run_packU_setpixel_packL {s : State} {rest : List Turn} {cw : CommandWord}
    {ws : List CommandWord} {x y : Nat} {r g b : Byte} (hp : s.phase = .packU) (hc : s.hc = .idle)
    (hw : s.cmds = cw :: ws) (hsched : s.schedule = .engine false :: .host :: .engine false :: rest)
    (hd : decodeCommand cw = .ok (.setpixel x y r g b)) (hx : x < 64) (hy : y < 64) :
    ∃ t, Host.Core.run core 3 s = .next t ∧ t.fb = (s.pixWrite x y r g b).fb ∧
      t.rowWord s.col = packWord (quantizePixel (s.pixRead s.col.toNat s.row.toNat) s.brightLat)
        (quantizePixel ((s.pixWrite x y r g b).pixRead s.col.toNat (s.row.toNat + 32)) s.brightLat) := by
  have hU : step s = .next { s with
      schedule := .host :: .engine false :: rest, ioErr := false, phase := .packL
      pixTmp := quantizePixel (s.pixRead s.col.toNat s.row.toNat) s.brightLat } := by
    rw [step_engine hsched, hp]
    rfl
  exact ⟨_, calc
    Host.Core.run core 3 s = Host.Core.run core 2 _ := run_succ 2 hU
    _ = Host.Core.run core 1 _ := run_succ 1 <|
      Eq.trans (step_host_command rfl hc hw hd) (exec_setpixel_in _ r g b hx hy)
    _ = .next _ := run_succ 0 (step_engine rfl), exec_packL_fb_rowWord rfl⟩

/-- Settles O52: `run_packU_setpixel_packL`, where the lower pixel is the one written or another one. -/
theorem aWriteBetweenTheTwoReadsOfAColumn : Obligations.AWriteBetweenTheTwoReadsOfAColumn := by
  unfold Obligations.AWriteBetweenTheTwoReadsOfAColumn
  intro s rest cw ws r g b hp hc hw hsched
  have hcol : s.col.toNat < 64 := s.col.isLt
  have hrow : s.row.toNat < 32 := s.row.isLt
  refine ⟨fun hd => ?_, fun hd => ?_⟩
  · obtain ⟨t, hrun, -, hword⟩ := run_packU_setpixel_packL (y := s.row.toNat + 32) hp hc hw hsched
      (by exact_mod_cast hd) hcol (by omega)
    rw [s.pixRead_pixWrite r g b hcol hcol, if_pos ⟨rfl, rfl⟩] at hword
    exact ⟨t, hrun, hword⟩
  · obtain ⟨t, hrun, hfb, hword⟩ := run_packU_setpixel_packL hp hc hw hsched hd hcol (by omega)
    rw [s.pixRead_pixWrite r g b hcol hcol, if_neg (by omega)] at hword
    refine ⟨t, hrun, ?_, hword⟩
    rw [State.pixRead_congr hfb, s.pixRead_pixWrite r g b hcol hcol, if_pos ⟨rfl, rfl⟩]

end Sys2Proof.Machine

/-! ## O1: decoding inverts encoding -/

namespace Sys2Proof.Machine

open Sys2Proof

/-- A well-formed command is read back from the word it is packed into (30_encoding.md R75 to R77): each
field by its `packCommand` lemma, each coordinate and size by `toInt_ofInt_of_fits`. -/
theorem decode_encode_command {i : Instr} (hi : IsCommand i) (hwf : i.wf = true) :
    decode (encode i) = .ok i := by
  cases hi
  case setpixel | getpixel | fillrect =>
    simp only [Instr.wf, Bool.and_eq_true, and_assoc] at hwf
    simp [encode, decode, decodeCommand, toInt_ofInt_of_fits, hwf, -BitVec.toInt_ofInt]
  case setbright => simp [encode, decode, decodeCommand, toInt_ofInt_of_fits hwf]
  all_goals simp [encode, decode, decodeCommand]

/-- Settles O1: a command by `decode_encode_command`, each micro-operation by evaluating the codes of R82. -/
theorem decodeInvertsEncode : Obligations.DecodeInvertsEncode := by
  unfold Obligations.DecodeInvertsEncode
  intro i hwf
  cases i
  case setpixel | getpixel | clear | fillrect | setbright | present | start | stop | getstatus =>
    exact decode_encode_command (by constructor) hwf
  all_goals rfl

end Sys2Proof.Machine

/-! ## O4: which opcodes decode -/

namespace Sys2Proof.Machine

open Sys2Proof

/-- The opcodes 0x01 to 0x09 select a command (30_encoding.md R77). -/
theorem decodeCommand_legal {cw : CommandWord} (hlo : 1 ≤ (cwOp cw).toNat)
    (hhi : (cwOp cw).toNat ≤ 9) : ∃ i, decodeCommand cw = .ok i := by
  unfold decodeCommand
  interval_cases (cwOp cw).toNat <;> exact ⟨_, rfl⟩

/-- Every other opcode selects no command (R79). -/
theorem decodeCommand_illegal {cw : CommandWord} (h : (cwOp cw).toNat = 0 ∨ 10 ≤ (cwOp cw).toNat) :
    decodeCommand cw = .error (.illegalCommand (cwOp cw)) := by
  unfold decodeCommand
  split
  case h_10 => rfl
  all_goals omega

/-- Settles O4: `decodeCommand_legal` with `decodeCommand_wf`, and `decodeCommand_illegal`. -/
theorem exactlyTheNineOpcodesDecode : Obligations.ExactlyTheNineOpcodesDecode := by
  unfold Obligations.ExactlyTheNineOpcodesDecode
  refine fun cw => ⟨fun hlo hhi => ?_, decodeCommand_illegal⟩
  obtain ⟨i, hi⟩ := decodeCommand_legal hlo hhi
  exact ⟨i, hi, decodeCommand_wf hi⟩

end Sys2Proof.Machine

/-! ## O2, O5: a word decodes by its opcode and used fields, and by nothing else -/

namespace Sys2Proof.Machine

open Sys2Proof

/-- A word that decodes carries the opcode of its instruction (30_encoding.md R77). -/
theorem cwOp_of_decodeCommand_ok {cw : CommandWord} {i : Instr} (h : decodeCommand cw = .ok i) :
    (cwOp cw).toNat = (Laws.tableRow i).2 := by
  unfold decodeCommand at h
  split at h <;> cases h <;> assumption

/-- A word that does not decode is rejected with its own opcode (R79). -/
theorem decodeCommand_eq_error {cw : CommandWord} {e : DecodeError} (h : decodeCommand cw = .error e) :
    e = .illegalCommand (cwOp cw) := by
  unfold decodeCommand at h
  split at h <;> cases h
  rfl

/-- Words that decode alike have the same opcode. -/
theorem cwOp_eq_of_decodeCommand_eq {cw cw' : CommandWord} (h : decodeCommand cw = decodeCommand cw') :
    cwOp cw = cwOp cw' := by
  cases hd : decodeCommand cw' with
  | ok i =>
    exact BitVec.eq_of_toNat_eq
      ((cwOp_of_decodeCommand_ok (h.trans hd)).trans (cwOp_of_decodeCommand_ok hd).symm)
  | error e =>
    exact DecodeError.illegalCommand.inj
      ((decodeCommand_eq_error (h.trans hd)).symm.trans (decodeCommand_eq_error hd))

/-- Two words decode alike exactly when they agree on the opcode and the fields it uses (R77, R78): under
one opcode, the decoded instructions carry those fields and no others. -/
theorem decodeCommand_eq_iff {cw cw' : CommandWord} :
    decodeCommand cw = decodeCommand cw' ↔ UsedFieldsAgree cw cw' := by
  by_cases hop : cwOp cw = cwOp cw'
  · unfold UsedFieldsAgree decodeCommand
    rw [hop]
    split <;> simp [*]
  · exact iff_of_false (fun h => hop (cwOp_eq_of_decodeCommand_eq h)) (fun h => hop h.1)

/-- A command is encoded as a command word (R77). -/
theorem IsCommand.encode_eq {i : Instr} (hi : IsCommand i) : ∃ cw, encode i = .command cw := by
  cases hi <;> exact ⟨_, rfl⟩

/-- Settles O2: the encoded word decodes to the same instruction (`decode_encode_command`), so the two
words agree on the used fields. -/
theorem encodeKeepsTheUsedFields : Obligations.EncodeKeepsTheUsedFields := by
  unfold Obligations.EncodeKeepsTheUsedFields
  intro cw i hd
  have hi := decodeCommand_isCommand hd
  obtain ⟨cw', he⟩ := hi.encode_eq
  have hd' : decodeCommand cw' = .ok i := by
    simpa [he, decode] using decode_encode_command hi (decodeCommand_wf hd)
  exact ⟨cw', he, decodeCommand_eq_iff.1 (hd.trans hd'.symm)⟩

/-- Settles O5: one direction of `decodeCommand_eq_iff`. -/
theorem unusedFieldsHaveNoEffect : Obligations.UnusedFieldsHaveNoEffect := by
  unfold Obligations.UnusedFieldsHaveNoEffect
  exact fun _ _ => decodeCommand_eq_iff.2

end Sys2Proof.Machine

/-! ## O24: a host step responds exactly when it leaves the port idle -/

namespace Sys2Proof.Machine

open Sys2Proof

/-- Where a host step leaves the command it serves (30_encoding.md R80, R81). -/
inductive CommandProgress (s t : State) : Prop where
  /-- The command ends: the port is idle and one response is the step's only output. -/
  | ended (hc : t.hc = .idle) (w : Response) (trace : t.trace = .response w :: s.trace)
  /-- The command goes on: the port is not idle and the step has no output. -/
  | goesOn (hc : t.hc ≠ .idle) (trace : t.trace = s.trace)

theorem State.clearStep_progress (s : State) (i : Fin 4096) (r g b : Byte) :
    CommandProgress s (s.clearStep i r g b) := by
  have hc := s.clearStep_hc i r g b
  have ht := s.clearStep_trace i r g b
  split_ifs at hc ht
  · exact .goesOn (by simp [hc]) ht
  · exact .ended hc _ ht

theorem State.fillStep_progress (s : State) (dx dy : Nat) (x y w h : Int) (r g b : Byte) :
    CommandProgress s (s.fillStep dx dy x y w h r g b) := by
  unfold State.fillStep
  split_ifs
  · exact .goesOn (by simp) (by simp)
  · exact .goesOn (by simp) (by simp)
  · exact .ended rfl rspDone (by simp)

theorem State.stopStep_progress {s : State} (hc : s.hc = .stopping) : CommandProgress s s.stopStep := by
  unfold State.stopStep
  split
  · exact .goesOn (by simp [hc]) rfl
  · exact .ended rfl _ rfl

/-- The step in which the port accepts a command: it ends there, or a CLEAR, a FILLRECT or a STOP goes on. -/
theorem exec_command_progress {i : Instr} {s t : State} (hi : IsCommand i) (h : exec i s = .next t)
    (hc : s.hc = .idle) : CommandProgress s t := by
  cases hi <;> cases h
  case setpixel => exact .ended (by simp [hc]) rspDone (by simp)
  case getpixel => split <;> exact .ended hc _ rfl
  case clear => exact s.clearStep_progress _ _ _ _
  case fillrect =>
    split
    · exact .ended hc _ rfl
    · exact s.fillStep_progress _ _ _ _ _ _ _ _ _
  case start => split <;> exact .ended hc _ rfl
  case stop =>
    split
    · exact .goesOn (by simp) rfl
    · exact .ended hc _ rfl
  all_goals exact .ended hc _ rfl

/-- Taking the word is no output. -/
theorem CommandProgress.of_nextWord {s t : State} (h : CommandProgress s.nextWord.2 t) :
    CommandProgress s t := by
  cases h with
  | ended hc w ht => exact .ended hc w (by simpa using ht)
  | goesOn hc ht => exact .goesOn hc (by simpa using ht)

/-- Every host step that has a command in progress or a word to accept, legal or not. -/
theorem hostStep_progress {s t : State} (h : hostStep s = .next t)
    (hw : s.hc ≠ .idle ∨ s.nextWord.1 ≠ none) : CommandProgress s t := by
  rcases hostStep_cases h with ⟨hc, hn, -⟩ | ⟨hc, cw, i, -, hd, h⟩ | ⟨hc, cw, e, -, -, rfl⟩ |
    ⟨i, r, g, b, -, rfl⟩ | ⟨dx, dy, x, y, w, k, r, g, b, -, rfl⟩ | ⟨hc, rfl⟩
  · exact absurd hw (by simp [hc, hn])
  · exact (exec_command_progress (decodeCommand_isCommand hd) h (by simp [hc])).of_nextWord
  · exact CommandProgress.of_nextWord (.ended (by simp [hc]) _ rfl)
  · exact s.clearStep_progress i r g b
  · exact s.fillStep_progress dx dy x y w k r g b
  · exact s.stopStep_progress hc

theorem CommandProgress.responses {s t : State} (h : CommandProgress s t) :
    t.responses = s.responses + (if t.hc = .idle then 1 else 0) := by
  cases h with
  | ended hc w ht => simp [State.responses, ht, hc]
  | goesOn hc ht => simp [State.responses, ht, hc]

/-- Settles O24: the host turn is a host step that `hostStep_progress` covers. -/
theorem aCommandRespondsExactlyWhenItEnds : Obligations.ACommandRespondsExactlyWhenItEnds := by
  unfold Obligations.ACommandRespondsExactlyWhenItEnds
  intro s rest hs hw
  obtain ⟨t, ht⟩ := step_total s
  have hhost : hostStep { s with schedule := rest } = .next t := (step_cons hs).symm.trans ht
  have hword : s.hc ≠ .idle ∨ ({ s with schedule := rest } : State).nextWord.1 ≠ none := by
    refine hw.imp_right fun hcmds => ?_
    obtain ⟨cw, ws, hcw⟩ := List.exists_cons_of_ne_nil hcmds
    simp [State.nextWord_cons (s := { s with schedule := rest }) hcw]
  exact ⟨t, ht, (hostStep_progress hhost hword).responses⟩

end Sys2Proof.Machine

/-! ## O3: the worked words and the phase codes -/

namespace Sys2Proof.Machine

open Sys2Proof

/-- Each of the sixteen codes is the code of its phase (30_encoding.md R82). -/
@[simp] theorem phaseCode_phaseOfCode : ∀ c : BitVec 4, phaseCode (phaseOfCode c) = c := by decide

/-- Settles O3: the fixed words and codes by evaluation, the correspondence by `phaseOfCode_phaseCode` and
`phaseCode_phaseOfCode`. -/
theorem workedWordsAndPhaseCodesDecode : Obligations.WorkedWordsAndPhaseCodesDecode := by
  unfold Obligations.WorkedWordsAndPhaseCodesDecode
  exact ⟨by decide, by decide, phaseOfCode_phaseCode, phaseCode_phaseOfCode⟩

end Sys2Proof.Machine

/-! ## O8, O10, O11, O12, O14: single pixels -/

namespace Sys2Proof.Machine

open Sys2Proof

/-- The bytes of a pixel write: the colour at the pixel's three offsets, every other byte as it was
(20_memory.md R53). -/
theorem State.pixWrite_bytes (s : State) (x y : Nat) (r g b : Byte) :
    Memory.read (s.pixWrite x y r g b).fb (pixOff x y) = r ∧
    Memory.read (s.pixWrite x y r g b).fb (pixOff x y + 1) = g ∧
    Memory.read (s.pixWrite x y r g b).fb (pixOff x y + 2) = b ∧
    ∀ a, a < pixOff x y ∨ pixOff x y + 2 < a →
      Memory.read (s.pixWrite x y r g b).fb a = Memory.read s.fb a := by
  refine ⟨by simp [Memory.read_write3], by simp [Memory.read_write3], by simp [Memory.read_write3],
    fun a ha => ?_⟩
  rw [State.pixWrite_fb, Memory.read_write3, if_neg (by omega), if_neg (by omega), if_neg (by omega)]

/-- SETPIXEL at integer coordinates inside the panel (40_pixel_api.md R91). -/
theorem exec_setpixel_inBounds (s : State) {x y : Int} (r g b : Byte) (h : inBounds x y = true) :
    exec (.setpixel x y r g b) s = .next ((s.pixWrite x.toNat y.toNat r g b).respond rspDone) := by
  simp [exec, execSetpixel, State.putPixel_in r g b h]

/-- GETPIXEL at integer coordinates inside the panel (40_pixel_api.md R92). -/
theorem exec_getpixel_inBounds (s : State) {x y : Int} (h : inBounds x y = true) :
    exec (.getpixel x y) s = .next (s.respond (rspPixel true (s.pixRead x.toNat y.toNat))) := by
  simp [exec, execGetpixel, h]

/-- Settles O8: in bounds SETPIXEL is a pixel write with a response, and `State.pixWrite_bytes` says what
that stores. -/
theorem setpixelStoresExactlyOnePixel : Obligations.SetpixelStoresExactlyOnePixel := by
  unfold Obligations.SetpixelStoresExactlyOnePixel
  intro s x y r g b hx hx' hy hy'
  obtain ⟨hr, hg, hb, hother⟩ := s.pixWrite_bytes x.toNat y.toNat r g b
  exact ⟨_, exec_setpixel_inBounds s r g b ((inBounds_iff x y).2 ⟨hx, hx', hy, hy'⟩), hr, hg, hb, hother,
    rfl, rfl⟩

/-- The number of a concatenation as a sum, for words built field by field (30_encoding.md R80). -/
theorem toNat_append_eq_add {m n : Nat} (a : BitVec m) (b : BitVec n) :
    (a ++ b).toNat = a.toNat * 2 ^ n + b.toNat := by
  rw [BitVec.toNat_append, ← Nat.shiftLeft_add_eq_or_of_lt b.isLt, Nat.shiftLeft_eq]

/-- The response `pixel` of an in-bounds read as a number: kind 1, `in_bounds` 1, the three bytes
(30_encoding.md R80). -/
theorem rspPixel_inBounds (r g b : Byte) :
    rspPixel true (r, g, b) =
      BitVec.ofNat 32 (0x11000000 + r.toNat * 65536 + g.toNat * 256 + b.toNat) := by
  apply BitVec.eq_of_toNat_eq
  have hr := r.isLt
  have hg := g.isLt
  have hb := b.isLt
  simp only [rspPixel, toNat_append_eq_add, BitVec.toNat_ofNat, BitVec.toNat_ofBool, Bool.toNat_true]
  omega

/-- Settles O10: `exec_getpixel_inBounds`, the response word as `rspPixel_inBounds` gives it. -/
theorem getpixelRespondsWithTheStoredBytes : Obligations.GetpixelRespondsWithTheStoredBytes := by
  unfold Obligations.GetpixelRespondsWithTheStoredBytes
  intro s x y hx hx' hy hy'
  rw [exec_getpixel_inBounds s ((inBounds_iff x y).2 ⟨hx, hx', hy, hy'⟩), ← rspPixel_inBounds]
  rfl

/-- Settles O11: SETBRIGHT leaves the framebuffer alone, so the pixel read is the pixel written. -/
theorem readAfterWriteIsUnscaled : Obligations.ReadAfterWriteIsUnscaled := by
  unfold Obligations.ReadAfterWriteIsUnscaled
  intro s x y v r g b hx hx' hy hy'
  have hin := (inBounds_iff x y).2 ⟨hx, hx', hy, hy'⟩
  refine ⟨_, _, _, exec_setpixel_inBounds s r g b hin, rfl, exec_getpixel_inBounds _ hin, ?_⟩
  simp [State.pixRead, rspPixel_inBounds]

/-- Settles O12: the first `State.clearStep`. -/
theorem clearStartsAtPixelZero : Obligations.ClearStartsAtPixelZero := by
  unfold Obligations.ClearStartsAtPixelZero
  intro s r g b
  obtain ⟨hr, hg, hb, hother⟩ := s.pixWrite_bytes 0 0 r g b
  exact ⟨_, rfl, hr, hg, hb, fun a ha => hother a (.inr ha), rfl, rfl⟩

/-- Settles O14: an empty rectangle by the guard of `execFillrect`, any other by the first
`State.fillStep`. -/
theorem fillrectStartsAtItsCorner : Obligations.FillrectStartsAtItsCorner := by
  unfold Obligations.FillrectStartsAtItsCorner
  intro s x y w h r g b
  refine ⟨fun hempty => ?_, fun hw hh => ⟨s.fillStep 0 0 x y w h r g b, ?_, ?_, ?_, ?_, ?_, ?_⟩⟩
  · simp only [exec, execFillrect, if_pos hempty]
    rfl
  · simp [exec, execFillrect, not_or, hw, hh]
  · intro hin
    rw [State.fillStep_fb]
    simpa [State.putPixel_in r g b ((inBounds_iff x y).2 hin)] using
      s.pixWrite_bytes x.toNat y.toNat r g b
  · intro hout
    rw [← inBounds_iff, Bool.not_eq_true] at hout
    simp [State.fillStep_fb, State.putPixel_out r g b hout]
  · simp [State.fillStep_hc]
  · rw [State.fillStep_trace]
    by_cases hlast : w = 1 ∧ h = 1
    · rw [if_pos hlast, if_neg (by omega)]
      rfl
    · rw [if_neg hlast, if_pos (by omega)]
  · exact s.fillStep_frame 0 0 x y w h r g b

end Sys2Proof.Machine

/-! ## O17, O18, O19: SETBRIGHT, PRESENT and GETSTATUS -/

namespace Sys2Proof.Machine

open Sys2Proof

/-- The clamp as arithmetic (30_encoding.md R76). -/
theorem clampByte_toNat (v : Int) : ((clampByte v).toNat : Int) = max 0 (min v 255) := by
  unfold clampByte
  split_ifs with hneg hbig
  · rw [BitVec.toNat_ofNat]; omega
  · rw [BitVec.toNat_ofNat]; omega
  · rw [BitVec.toNat_ofInt]; omega

/-- Settles O17: `clampByte_toNat`. -/
theorem setbrightClamps : Obligations.SetbrightClamps := by
  unfold Obligations.SetbrightClamps
  exact fun s v => ⟨_, rfl, clampByte_toNat v, rfl, rfl⟩

/-- Settles O18: `execPresent` is the response and nothing else. -/
theorem presentOnlyResponds : Obligations.PresentOnlyResponds := by
  unfold Obligations.PresentOnlyResponds
  exact fun s => rfl

/-- The response `status` as a number: kind 2, IC at bit 1, PF at bit 0 (30_encoding.md R80). -/
theorem rspStatus_eq : ∀ st : BitVec 2,
    rspStatus st = BitVec.ofNat 32 (0x20000000 + 2 * (st.getLsbD 1).toNat + (st.getLsbD 0).toNat) := by
  decide

/-- Settles O19: the response word is that of `rspStatus_eq`. -/
theorem getstatusRespondsWithTheStickyFlags : Obligations.GetstatusRespondsWithTheStickyFlags := by
  unfold Obligations.GetstatusRespondsWithTheStickyFlags
  intro s
  simp only [State.ic, State.pf, ← rspStatus_eq]
  rfl

end Sys2Proof.Machine
/-! ## The host's side of the state during an engine step -/

namespace Sys2Proof.Machine

open Sys2Proof

/-- What the host wrote or was told stands as before, and a stopped engine is still stopped. -/
structure HostSame (s t : State) : Prop where
  fb : t.fb = s.fb
  brightness : t.brightness = s.brightness
  ic : t.ic = s.ic
  hc : t.hc = s.hc
  cmds : t.cmds = s.cmds
  responseWords : t.responseWords = s.responseWords
  stopped : s.running = false → t.running = false

/-- The outputs of a micro-operation, and its effect on `status`, are those of at most one pin write. -/
theorem exec_phaseInstr_outputs {s t : State} (h : exec (phaseInstr s.phase) s = .next t) :
    (t.status = s.status ∧ t.trace = s.trace) ∨
      ∃ w, t.status = (s.pinWrite w).status ∧ t.trace = (s.pinWrite w).trace := by
  cases hp : s.phase <;> rw [hp] at h <;> cases h
  case idle | rowCheck | latchb | packU | packL => exact .inl (by simp)
  case dwell => refine .inl ?_; split <;> simp
  case clkLo => exact .inr ⟨.clk false, by simp⟩
  all_goals exact .inr ⟨_, rfl, rfl⟩

/-- A pin write sets no bit of `status` but PF (60_exceptions.md R180). -/
theorem State.pinWrite_ic (s : State) (w : PinWrite) : (s.pinWrite w).ic = s.ic := by
  obtain ⟨hok, hfails, -, -⟩ := s.pinWrite_spec w
  cases hio : s.ioFails
  · simp [State.ic, (hok hio).2.1]
  · obtain ⟨-, -, hst, -⟩ := hfails hio
    simp [State.ic, hst]

/-- A pin write is no response. -/
theorem State.pinWrite_responseWords (s : State) (w : PinWrite) :
    (s.pinWrite w).responseWords = s.responseWords := by
  obtain ⟨hok, hfails, -, -⟩ := s.pinWrite_spec w
  cases hio : s.ioFails
  · simp [State.responseWords, (hok hio).2.2]
  · obtain ⟨bits, -, -, htrace⟩ := hfails hio
    simp [State.responseWords, htrace]

/-- No engine step touches the host's side (60_exceptions.md R188). -/
theorem exec_phaseInstr_hostSame {s t : State} (h : exec (phaseInstr s.phase) s = .next t) :
    HostSame s t := by
  obtain ⟨-, hhc, hrun⟩ := exec_phaseInstr_frame h
  have hmem : t.fb = s.fb ∧ t.cmds = s.cmds := by
    cases hp : s.phase <;> rw [hp] at h <;> cases h
    case dwell => split <;> simp
    all_goals simp
  have hout : t.ic = s.ic ∧ t.responseWords = s.responseWords := by
    rcases exec_phaseInstr_outputs h with ⟨hst, htr⟩ | ⟨w, hst, htr⟩
    · simp [State.ic, State.responseWords, hst, htr]
    · rw [← s.pinWrite_ic w, ← s.pinWrite_responseWords w]
      simp [State.ic, State.responseWords, hst, htr]
  refine ⟨hmem.1, (exec_phaseInstr_steering h).2, hout.1, hhc, hmem.2, hout.2, fun hs => ?_⟩
  by_cases he : s.phase = .exit
  · rw [he] at h
    cases h
    rfl
  · exact (hrun he).1.trans hs

theorem engineStep_hostSame {s t : State} {io : Bool} (h : engineStep io s = .next t) :
    HostSame s t := by
  obtain ⟨hfb, hbr, hic, hhc, hcmds, hwords, hstop⟩ :=
    exec_phaseInstr_hostSame (s := { s with ioErr := io }) h
  exact ⟨hfb, hbr, hic, hhc, hcmds, hwords, hstop⟩

end Sys2Proof.Machine

/-! ## Commands that write one pixel in each host step -/

namespace Sys2Proof.Machine

open Sys2Proof

/-! ### What one is, and one of its steps -/

/-- A command that takes `count` host steps and writes `pixel k` in step `k` (40_pixel_api.md R93, R94; the
steps as log 12 counts them). -/
structure PixelCommand where
  count : Nat
  pixel : Nat → Int × Int
  /-- Where the port stands once `n` steps are made. -/
  port : Nat → HostProgress
  r : Byte
  g : Byte
  b : Byte

/-- What step `n` of the command does. -/
structure PixelCommand.HostStep (c : PixelCommand) (n : Nat) (s t : State) : Prop where
  fb : t.fb = (s.putPixel (c.pixel n).1 (c.pixel n).2 c.r c.g c.b).fb
  hc : t.hc = c.port (n + 1)
  trace : t.trace = if n + 1 = c.count then .response rspDone :: s.trace else s.trace
  frame : { t with fb := s.fb, hc := s.hc, trace := s.trace } = s

/-- The instruction `i` runs as this command: the port accepts it when idle, with step 0, and makes its
later steps one by one. -/
structure PixelCommand.Runs (c : PixelCommand) (i : Instr) : Prop where
  idle : c.port 0 = .idle
  accepts : ∀ s, ∃ t, exec i s = .next t ∧ c.HostStep 0 s t
  goesOn : ∀ n s, 0 < n → n < c.count → s.hc = c.port n →
    ∃ t, hostStep s = .next t ∧ c.HostStep n s t

/-! ### The framebuffer after some of its steps -/

/-- `s` with the first `n` pixels of the command written. -/
def PixelCommand.paint (c : PixelCommand) (s : State) (n : Nat) : State :=
  match n with
  | 0 => s
  | n + 1 => (c.paint s n).putPixel (c.pixel n).1 (c.pixel n).2 c.r c.g c.b

theorem State.putPixel_fb_congr {s t : State} (h : t.fb = s.fb) (x y : Int) (r g b : Byte) :
    (t.putPixel x y r g b).fb = (s.putPixel x y r g b).fb := by
  cases hin : inBounds x y
  · rw [State.putPixel_out r g b hin, State.putPixel_out r g b hin, h]
  · rw [State.putPixel_in r g b hin, State.putPixel_in r g b hin, State.pixWrite_fb, State.pixWrite_fb, h]

/-- A pixel of the panel after a write at any coordinates (20_memory.md R55). -/
theorem State.pixRead_putPixel (s : State) (x y : Int) {px py : Nat} (r g b : Byte) (hx : px < 64)
    (hy : py < 64) :
    (s.putPixel x y r g b).pixRead px py =
      if (px : Int) = x ∧ (py : Int) = y then (r, g, b) else s.pixRead px py := by
  cases hin : inBounds x y
  · rw [State.putPixel_out r g b hin, if_neg]
    intro hp
    have hb := (inBounds_iff x y).2 (by omega)
    simp [hin] at hb
  · have hb := (inBounds_iff x y).1 hin
    rw [State.putPixel_in r g b hin, State.pixRead_pixWrite s r g b (by omega) hx]
    exact if_congr (by omega) rfl rfl

/-- The pixels written are those that one of the steps made so far wrote. -/
theorem PixelCommand.pixRead_paint (c : PixelCommand) (s : State) (n : Nat) {px py : Nat} (hx : px < 64)
    (hy : py < 64) :
    (c.paint s n).pixRead px py =
      if ∃ k < n, c.pixel k = ((px : Int), (py : Int)) then (c.r, c.g, c.b) else s.pixRead px py := by
  induction n with
  | zero => simp [paint]
  | succ n ih =>
    rw [paint, State.pixRead_putPixel _ _ _ _ _ _ hx hy, ih]
    by_cases hlast : (px : Int) = (c.pixel n).1 ∧ (py : Int) = (c.pixel n).2
    · rw [if_pos hlast, if_pos ⟨n, n.lt_succ_self, Prod.ext hlast.1.symm hlast.2.symm⟩]
    · rw [if_neg hlast]
      refine if_congr ⟨fun ⟨k, hk, hp⟩ => ⟨k, by omega, hp⟩, fun ⟨k, hk, hp⟩ => ⟨k, ?_, hp⟩⟩ rfl rfl
      have hne : k ≠ n := by rintro rfl; exact hlast (by simp [hp])
      omega

/-! ### The run -/

/-- `t` is where `n` host steps lead from `s`, whose first word is the command and whose port is idle. -/
structure PixelCommand.At (c : PixelCommand) (s : State) (ws : List CommandWord) (n : Nat) (t : State) :
    Prop where
  fb : t.fb = (c.paint s n).fb
  hc : t.hc = c.port n
  cmds : t.cmds = if n = 0 then s.cmds else ws

/-- The next host step, accepting or going on. -/
theorem PixelCommand.Runs.hostStep {c : PixelCommand} {i : Instr} (hc : c.Runs i) {s t : State}
    {cw : CommandWord} {ws : List CommandWord} {n : Nat} (hd : decodeCommand cw = .ok i)
    (hw : s.cmds = cw :: ws) (ht : c.At s ws n t) (hn : n < c.count) :
    ∃ u, hostStep t = .next u ∧ c.At s ws (n + 1) u ∧ c.HostStep n { t with cmds := ws } u := by
  obtain ⟨u, hu, hstep⟩ : ∃ u, Machine.hostStep t = .next u ∧ c.HostStep n { t with cmds := ws } u := by
    rcases Nat.eq_zero_or_pos n with rfl | hpos
    · obtain ⟨u, hu, hstep⟩ := hc.accepts { t with cmds := ws }
      exact ⟨u, (hostStep_command (ht.hc.trans hc.idle) (ht.cmds.trans hw) hd).trans hu, hstep⟩
    · obtain ⟨u, hu, hstep⟩ := hc.goesOn n t hpos hn ht.hc
      have hcmds : { t with cmds := ws } = t := by rw [← ht.cmds.trans (if_neg hpos.ne')]
      exact ⟨u, hu, hcmds.symm ▸ hstep⟩
  have hfb := State.putPixel_fb_congr (s := c.paint s n) (t := { t with cmds := ws }) ht.fb
  exact ⟨u, hu, ⟨hstep.fb.trans (hfb _ _ _ _ _), hstep.hc, congrArg State.cmds hstep.frame⟩, hstep⟩

/-- The rule for a run in which each host turn leads from `P n` to `P (n + 1)` and each engine turn keeps
`P n`. -/
theorem run_turns {P : Nat → State → Prop} {N : Nat} {rest : List Turn}
    (hlist : ∀ n s turns, P n s → P n { s with schedule := turns })
    (hhost : ∀ n s, n < N → P n s → ∃ t, hostStep s = .next t ∧ P (n + 1) t)
    (ts : List Turn) (hreset : .reset ∉ ts)
    (hengine : ∀ io, .engine io ∈ ts → ∀ n s t, P n s → engineStep io s = .next t → P n t)
    {n : Nat} {s : State} (hs : P n s) (hsched : s.schedule = ts ++ rest)
    (hN : n + ts.count .host ≤ N) :
    ∃ t, Host.Core.run core ts.length s = .next t ∧ t.schedule = rest ∧ P (n + ts.count .host) t := by
  induction ts generalizing n s with
  | nil => exact ⟨s, rfl, hsched, hs⟩
  | cons turn ts ih =>
    replace ih := @ih (fun h => hreset (.tail _ h)) (fun io h => hengine io (.tail _ h))
    have hs' := hlist n s (ts ++ rest) hs
    have hstep := step_cons hsched
    cases turn with
    | reset => exact absurd (.head _) hreset
    | engine io =>
      obtain ⟨t, ht⟩ := exec_total (phaseInstr s.phase) { s with schedule := ts ++ rest, ioErr := io }
      have hrun := hstep.trans ht
      have hkeep := hengine io (.head _) n _ t hs' ht
      simp only [List.count_cons_of_ne (show Turn.engine io ≠ .host by simp)] at hN ⊢
      obtain ⟨u, hu, hrest, hP⟩ := ih hkeep (exec_turns ht).1 hN
      exact ⟨u, (run_succ ts.length hrun).trans hu, hrest, hP⟩
    | host =>
      rw [List.count_cons_self] at hN ⊢
      obtain ⟨t, ht, hP⟩ := hhost n _ (by omega) hs'
      have hrun := hstep.trans ht
      have hsched' : t.schedule = ts ++ rest := by
        simpa [State.nextTurn_cons hsched] using (step_turns hrun).1
      obtain ⟨u, hu, hrest, hP⟩ := ih hP hsched' (by omega)
      rw [Nat.add_right_comm] at hP
      exact ⟨u, (run_succ ts.length hrun).trans hu, hrest, hP⟩

/-- What stands beside the framebuffer and the port while the command runs: the registers it leaves alone,
and its one response, given with the last step (30_encoding.md R80). -/
structure PixelCommand.Beside (c : PixelCommand) (s : State) (n : Nat) (t : State) : Prop where
  brightness : t.brightness = s.brightness
  ic : t.ic = s.ic
  stopped : s.running = false → t.running = false
  responseWords : t.responseWords = if n = c.count then rspDone :: s.responseWords else s.responseWords

theorem PixelCommand.At.of_hostSame {c : PixelCommand} {s t u : State} {ws : List CommandWord} {n : Nat}
    (h : c.At s ws n t) (hsame : HostSame t u) : c.At s ws n u :=
  ⟨hsame.fb.trans h.fb, hsame.hc.trans h.hc, hsame.cmds.trans h.cmds⟩

theorem PixelCommand.Beside.of_hostSame {c : PixelCommand} {s t u : State} {n : Nat}
    (h : c.Beside s n t) (hsame : HostSame t u) : c.Beside s n u :=
  ⟨hsame.brightness.trans h.brightness, hsame.ic.trans h.ic, fun hs => hsame.stopped (h.stopped hs),
    hsame.responseWords.trans h.responseWords⟩

/-- A host step keeps the registers, and is the one that responds if it is the last. -/
theorem PixelCommand.Beside.hostStep {c : PixelCommand} {s t u : State} {ws : List CommandWord} {n : Nat}
    (h : c.Beside s n t) (hn : n < c.count) (hstep : c.HostStep n { t with cmds := ws } u) :
    c.Beside s (n + 1) u := by
  have hwords : t.responseWords = s.responseWords := h.responseWords.trans (if_neg hn.ne)
  refine ⟨(congrArg State.brightness hstep.frame).trans h.brightness,
    (congrArg State.ic hstep.frame).trans h.ic,
    fun hs => (congrArg State.running hstep.frame).trans (h.stopped hs), ?_⟩
  rw [← hwords]
  unfold State.responseWords
  rw [hstep.trace]
  split_ifs <;> simp

/-- A command under any interleaving with the engine, reset apart (00_scope.md R9, 20_memory.md R58). -/
theorem PixelCommand.Runs.interleaved {c : PixelCommand} {i : Instr} (hc : c.Runs i) {s : State}
    {cw : CommandWord} {ws : List CommandWord} {ts rest : List Turn} (hd : decodeCommand cw = .ok i)
    (hidle : s.hc = .idle) (hw : s.cmds = cw :: ws) (hsched : s.schedule = ts ++ rest)
    (hreset : .reset ∉ ts) (hcount : ts.count .host ≤ c.count) (hpos : 0 < c.count) :
    ∃ t, Host.Core.run core ts.length s = .next t ∧ t.schedule = rest ∧
      c.At s ws (ts.count .host) t ∧ c.Beside s (ts.count .host) t := by
  have hstart : c.At s ws 0 s ∧ c.Beside s 0 s :=
    ⟨⟨rfl, hidle.trans hc.idle.symm, rfl⟩, ⟨rfl, rfl, id, (if_neg hpos.ne).symm⟩⟩
  have hrun := run_turns (P := fun n t => c.At s ws n t ∧ c.Beside s n t) (N := c.count)
    (fun n t turns ⟨⟨hfb, hhc, hcmds⟩, ⟨hbr, hic, hstop, hwords⟩⟩ =>
      ⟨⟨hfb, hhc, hcmds⟩, ⟨hbr, hic, hstop, hwords⟩⟩)
    (fun n t hn ⟨hat, hbeside⟩ =>
      let ⟨u, hu, hat', hstep⟩ := hc.hostStep hd hw hat hn
      ⟨u, hu, hat', hbeside.hostStep hn hstep⟩)
    ts hreset
    (fun io _ n t u ⟨hat, hbeside⟩ hu =>
      ⟨hat.of_hostSame (engineStep_hostSame hu), hbeside.of_hostSame (engineStep_hostSame hu)⟩)
    hstart hsched (by omega)
  simpa only [Nat.zero_add] using hrun

/-- Host turns alone: the outputs are then those of the command. -/
theorem PixelCommand.Runs.uninterrupted {c : PixelCommand} {i : Instr} (hc : c.Runs i) {s : State}
    {cw : CommandWord} {ws : List CommandWord} {n : Nat} (hd : decodeCommand cw = .ok i)
    (hidle : s.hc = .idle) (hw : s.cmds = cw :: ws) (hsched : s.schedule = List.replicate n .host)
    (hn : n ≤ c.count) (hpos : 0 < c.count) :
    ∃ t, Host.Core.run core n s = .next t ∧ t.fb = (c.paint s n).fb ∧
      t.trace = if n = c.count then .response rspDone :: s.trace else s.trace := by
  have hhost : ∀ turn ∈ List.replicate n Turn.host, turn = .host := fun _ => List.eq_of_mem_replicate
  obtain ⟨t, hrun, -, hat, htrace⟩ := run_turns
    (P := fun n t => c.At s ws n t ∧
      t.trace = if n = c.count then .response rspDone :: s.trace else s.trace)
    (N := c.count) (rest := [])
    (fun n t turns ⟨⟨hfb, hhc, hcmds⟩, htrace⟩ => ⟨⟨hfb, hhc, hcmds⟩, htrace⟩)
    (fun n t hn ⟨hat, htrace⟩ =>
      let ⟨u, hu, hat', hstep⟩ := hc.hostStep hd hw hat hn
      ⟨u, hu, hat', by rw [hstep.trace, htrace.trans (if_neg hn.ne)]⟩)
    (List.replicate n .host) (fun h => by cases hhost _ h) (fun io h => by cases hhost _ h)
    (n := 0) ⟨⟨rfl, hidle.trans hc.idle.symm, rfl⟩, (if_neg hpos.ne).symm⟩
    (hsched.trans (List.append_nil _).symm) (by rwa [List.count_replicate_self, Nat.zero_add])
  rw [List.length_replicate] at hrun
  rw [List.count_replicate_self, Nat.zero_add] at hat htrace
  exact ⟨t, hrun, hat.fb, htrace⟩

/-- Commands that write the same pixels leave the same framebuffer. -/
theorem PixelCommand.paint_fb_congr {c c' : PixelCommand} {s s' : State}
    (hpixel : ∀ k, c.pixel k = c'.pixel k) (hr : c.r = c'.r) (hg : c.g = c'.g) (hb : c.b = c'.b)
    (hfb : s.fb = s'.fb) (n : Nat) : (c.paint s n).fb = (c'.paint s' n).fb := by
  induction n with
  | zero => exact hfb
  | succ n ih =>
    rw [paint, paint, hpixel, hr, hg, hb]
    exact State.putPixel_fb_congr ih _ _ _ _ _

/-- A response more is a response word more. -/
theorem State.responses_eq_length (s : State) : s.responses = s.responseWords.length := by
  unfold State.responses State.responseWords
  induction s.trace with
  | nil => rfl
  | cons o rest ih => cases o <;> simp [ih]

theorem State.responses_congr {s t : State} (h : t.responseWords = s.responseWords) :
    t.responses = s.responses := by
  rw [State.responses_eq_length, State.responses_eq_length, h]

theorem State.responses_of_responseWords_cons {s t : State} {w : Response}
    (h : t.responseWords = w :: s.responseWords) : t.responses = s.responses + 1 := by
  rw [State.responses_eq_length, State.responses_eq_length, h, List.length_cons]

end Sys2Proof.Machine

/-! ## O13: CLEAR under any interleaving -/

namespace Sys2Proof.Machine

open Sys2Proof

/-- CLEAR as a pixel command (40_pixel_api.md R93): row-major order. -/
@[simps count pixel port r g b]
def clearCommand (r g b : Byte) : PixelCommand where
  count := 4096
  pixel k := ((k % 64 : Nat), (k / 64 : Nat))
  port n := if 0 < n ∧ n < 4096 then .clearing (Fin.ofNat 4096 n) r g b else .idle
  r := r
  g := g
  b := b

/-- `State.clearStep` at pixel `i` is step `i` of the command. -/
theorem State.clearStep_hostStep (s : State) (i : Fin 4096) (r g b : Byte) :
    (clearCommand r g b).HostStep i.val s (s.clearStep i r g b) where
  fb := by
    have hin : inBounds (i.val % 64 : Nat) (i.val / 64 : Nat) = true := (inBounds_iff _ _).2 (by omega)
    simp only [clearCommand_pixel, clearCommand_r, clearCommand_g, clearCommand_b, State.clearStep_fb,
      State.putPixel_in r g b hin, State.pixWrite_fb, Int.toNat_natCast]
  hc := by
    rw [State.clearStep_hc, clearCommand_port]
    by_cases hi : i.val < 4095
    · rw [dif_pos hi, if_pos (by omega)]
      congr 1
      exact Fin.ext (Nat.mod_eq_of_lt (by omega)).symm
    · rw [dif_neg hi, if_neg (by omega)]
  trace := by
    rw [State.clearStep_trace, clearCommand_count]
    by_cases hi : i.val < 4095
    · rw [if_pos hi, if_neg (by omega)]
    · rw [if_neg hi, if_pos (by omega)]
  frame := s.clearStep_frame i r g b

theorem clearCommand_runs (r g b : Byte) : (clearCommand r g b).Runs (.clear r g b) where
  idle := rfl
  accepts s := ⟨_, rfl, s.clearStep_hostStep 0 r g b⟩
  goesOn n s hpos hn hc := by
    rw [clearCommand_count] at hn
    rw [clearCommand_port, if_pos ⟨hpos, hn⟩] at hc
    have hstep := s.clearStep_hostStep (Fin.ofNat 4096 n) r g b
    rw [Fin.val_ofNat, Nat.mod_eq_of_lt hn] at hstep
    exact ⟨_, by rw [hostStep, hc], hstep⟩

/-- The first `n` pixels of a CLEAR are those below `n` in row-major order. -/
theorem clearCommand_covers (r g b : Byte) (n : Nat) {px py : Nat} (hx : px < 64) :
    (∃ k < n, (clearCommand r g b).pixel k = ((px : Int), (py : Int))) ↔ py * 64 + px < n := by
  simp only [clearCommand_pixel, Prod.mk.injEq, Nat.cast_inj]
  exact ⟨fun ⟨k, hk, hkx, hky⟩ => by omega, fun h => ⟨_, h, by omega, by omega⟩⟩

/-- A host turn at a CLEAR in progress. -/
theorem step_host_clearing {s : State} {rest : List Turn} {i : Fin 4096} {r g b : Byte}
    (hsched : s.schedule = .host :: rest) (hc : s.hc = .clearing i r g b) :
    step s = .next (State.clearStep { s with schedule := rest } i r g b) := by
  rw [step_cons hsched, takeTurn, hostStep, hc]

/-- Settles O13: `PixelCommand.Runs.interleaved` for CLEAR, and `State.clearStep_hostStep` for each later
step. -/
theorem clearFillsInRowMajorOrderUnderAnyInterleaving :
    Obligations.ClearFillsInRowMajorOrderUnderAnyInterleaving := by
  unfold Obligations.ClearFillsInRowMajorOrderUnderAnyInterleaving
  refine ⟨fun s cw ws ts rest r g b hd hidle hw hsched hreset hone hcount => ?_,
    fun s rest i r g b hsched hc => ?_⟩
  · obtain ⟨t, hrun, hrest, hat, hbeside⟩ := (clearCommand_runs r g b).interleaved hd hidle hw hsched
      hreset hcount (by simp)
    have hhc := hat.hc
    have hwords := hbeside.responseWords
    rw [clearCommand_port] at hhc
    rw [clearCommand_count] at hwords
    refine ⟨t, hrun, hrest, hat.cmds.trans (if_neg (by omega)), hbeside.brightness, hbeside.ic,
      hbeside.stopped, fun x y hx hy => ?_, fun hlt => ?_, fun heq => ?_⟩
    · rw [State.pixRead_congr hat.fb, PixelCommand.pixRead_paint _ _ _ hx hy]
      exact if_congr (clearCommand_covers r g b _ hx) rfl rfl
    · rw [if_neg (by omega)] at hwords
      exact ⟨hhc.trans (if_pos ⟨hone, hlt⟩), State.responses_congr hwords, hwords⟩
    · rw [if_pos heq] at hwords
      exact ⟨hhc.trans (if_neg (by omega)), State.responses_of_responseWords_cons hwords, hwords⟩
  · have hstep := State.clearStep_hostStep { s with schedule := rest } i r g b
    have hhc := hstep.hc
    have htrace := hstep.trace
    rw [clearCommand_port] at hhc
    rw [clearCommand_count] at htrace
    refine ⟨_, step_host_clearing hsched hc, fun x y hx hy => ?_, fun hlt => ?_, fun heq => ?_,
      congrArg (fun t : State => { t with schedule := s.schedule }) hstep.frame⟩
    · rw [State.pixRead_congr hstep.fb, State.pixRead_putPixel _ _ _ _ _ _ hx hy]
      simp only [clearCommand_pixel, Nat.cast_inj]
      exact if_congr (by omega) rfl rfl
    · exact ⟨hhc.trans (if_pos (by omega)), htrace.trans (if_neg (by omega))⟩
    · exact ⟨hhc.trans (if_neg (by omega)), htrace.trans (if_pos (by omega))⟩

end Sys2Proof.Machine

/-! ## O15: FILLRECT under any interleaving -/

namespace Sys2Proof.Machine

open Sys2Proof

/-! ### Column-first positions in a rectangle -/

/-- The pixel after one that is not the last of its row (40_pixel_api.md R94). -/
theorem position_along_row {n w h : Nat} (hn : n < w * h) (hx : n % w + 1 < w) :
    n + 1 < w * h ∧ (n + 1) % w = n % w + 1 ∧ (n + 1) / w = n / w := by
  have hw : 0 < w := by omega
  have hrow : w * (n / w + 1) ≤ w * h := Nat.mul_le_mul_left w (Nat.div_lt_of_lt_mul hn)
  have hpos := Nat.mod_add_div n w
  obtain ⟨hdiv, hmod⟩ := (Nat.div_mod_unique (a := n + 1) (c := n % w + 1) (d := n / w) hw).2
    ⟨by omega, hx⟩
  rw [Nat.mul_add] at hrow
  exact ⟨by omega, hmod, hdiv⟩

/-- The pixel after the last of a row that is not the last row. -/
theorem position_next_row {n w h : Nat} (hn : n < w * h) (hx : ¬ n % w + 1 < w) (hy : n / w + 1 < h) :
    n + 1 < w * h ∧ (n + 1) % w = 0 ∧ (n + 1) / w = n / w + 1 := by
  have hw : 0 < w := Nat.pos_of_ne_zero fun h0 => by simp [h0] at hn
  have hrow : w * (n / w + 1) < w * h := Nat.mul_lt_mul_of_pos_left hy hw
  have hpos := Nat.mod_add_div n w
  have hlast := Nat.mod_lt n hw
  rw [Nat.mul_add] at hrow
  obtain ⟨hdiv, hmod⟩ := (Nat.div_mod_unique (a := n + 1) (c := 0) (d := n / w + 1) hw).2
    ⟨by rw [Nat.mul_add]; omega, hw⟩
  exact ⟨by omega, hmod, hdiv⟩

/-- The last pixel of the last row is the last of all. -/
theorem position_last {n w h : Nat} (hn : n < w * h) (hx : ¬ n % w + 1 < w) (hy : ¬ n / w + 1 < h) :
    n + 1 = w * h := by
  have hw : 0 < w := Nat.pos_of_ne_zero fun h0 => by simp [h0] at hn
  have hh : h = n / w + 1 := by have := Nat.div_lt_of_lt_mul hn; omega
  have hpos := Nat.mod_add_div n w
  have hlast := Nat.mod_lt n hw
  rw [hh, Nat.mul_add]
  omega

/-! ### FILLRECT as a pixel command -/

/-- FILLRECT with a non-empty rectangle as a pixel command (40_pixel_api.md R94): `dx` is the inner loop. -/
@[simps count pixel port r g b]
def fillCommand (x y : Int) (w h : Nat) (r g b : Byte) : PixelCommand where
  count := w * h
  pixel k := (x + (k % w : Nat), y + (k / w : Nat))
  port n := if 0 < n ∧ n < w * h then .filling (n % w) (n / w) x y w h r g b else .idle
  r := r
  g := g
  b := b

/-- `State.fillStep` at the position of step `n` is that step of the command. -/
theorem State.fillStep_hostStep (s : State) (x y : Int) {w h n : Nat} (r g b : Byte) (hn : n < w * h) :
    (fillCommand x y w h r g b).HostStep n s (s.fillStep (n % w) (n / w) x y w h r g b) := by
  have hhc := s.fillStep_hc (n % w) (n / w) x y w h r g b
  have htrace := s.fillStep_trace (n % w) (n / w) x y w h r g b
  norm_cast at hhc htrace
  refine ⟨s.fillStep_fb _ _ _ _ _ _ _ _ _, hhc.trans ?_, htrace.trans ?_, s.fillStep_frame _ _ _ _ _ _ _ _ _⟩
  all_goals
    by_cases hx : n % w + 1 < w
    · obtain ⟨hlt, hmod, hdiv⟩ := position_along_row hn hx
      simp [hx, hlt, hmod, hdiv, hlt.ne]
    · by_cases hy : n / w + 1 < h
      · obtain ⟨hlt, hmod, hdiv⟩ := position_next_row hn hx hy
        simp [hx, hy, hlt, hmod, hdiv, hlt.ne]
      · simp [hx, hy, position_last hn hx hy]

theorem fillCommand_runs (x y : Int) {w h : Nat} (r g b : Byte) (hw : 0 < w) (hh : 0 < h) :
    (fillCommand x y w h r g b).Runs (.fillrect x y w h r g b) where
  idle := rfl
  accepts s := by
    have hstep := s.fillStep_hostStep x y r g b (Nat.mul_pos hw hh)
    rw [Nat.zero_mod, Nat.zero_div] at hstep
    exact ⟨_, by rw [exec, execFillrect, if_neg (by omega)], hstep⟩
  goesOn n s hpos hn hc := by
    rw [fillCommand_port, if_pos ⟨hpos, hn⟩] at hc
    exact ⟨_, by rw [hostStep, hc], s.fillStep_hostStep x y r g b hn⟩

/-- The pixels of a FILLRECT are those of its rectangle. -/
theorem fillCommand_covers (x y : Int) (w h : Nat) (r g b : Byte) (px py : Nat) :
    (∃ k < w * h, (fillCommand x y w h r g b).pixel k = ((px : Int), (py : Int))) ↔
      InRect x y w h px py := by
  simp only [fillCommand_pixel, Prod.mk.injEq]
  constructor
  · rintro ⟨k, hk, hkx, hky⟩
    have hw : 0 < w := Nat.pos_of_ne_zero fun h0 => by simp [h0] at hk
    have hcol := Nat.mod_lt k hw
    have hrow := Nat.div_lt_of_lt_mul hk
    generalize k % w = dx at hkx hcol
    generalize k / w = dy at hky hrow
    omega
  · rintro ⟨hx, hxw, hy, hyh⟩
    obtain ⟨i, hi⟩ := Int.eq_ofNat_of_zero_le (Int.sub_nonneg.2 hx)
    obtain ⟨j, hj⟩ := Int.eq_ofNat_of_zero_le (Int.sub_nonneg.2 hy)
    have hrow : w * (j + 1) ≤ w * h := Nat.mul_le_mul_left w (by omega)
    rw [Nat.mul_add] at hrow
    obtain ⟨hdiv, hmod⟩ := (Nat.div_mod_unique (a := i + w * j) (c := i) (d := j) (by omega : 0 < w)).2
      ⟨rfl, by omega⟩
    exact ⟨i + w * j, by omega, by omega, by omega⟩

/-- A host turn at a FILLRECT in progress. -/
theorem step_host_filling {s : State} {rest : List Turn} {dx dy : Nat} {x y w h : Int} {r g b : Byte}
    (hsched : s.schedule = .host :: rest) (hc : s.hc = .filling dx dy x y w h r g b) :
    step s = .next (State.fillStep { s with schedule := rest } dx dy x y w h r g b) := by
  rw [step_cons hsched, takeTurn, hostStep, hc]

/-- Settles O15: `PixelCommand.Runs.interleaved` for FILLRECT; a later step, inside the rectangle or not, by
the laws of `State.fillStep`. -/
theorem fillrectFillsTheClippedRectangleUnderAnyInterleaving :
    Obligations.FillrectFillsTheClippedRectangleUnderAnyInterleaving := by
  unfold Obligations.FillrectFillsTheClippedRectangleUnderAnyInterleaving
  refine ⟨fun s cw ws ts rest x y w h r g b hd hw hh hidle hcmds hsched hreset hcount => ?_,
    fun s rest dx dy x y w h r g b hsched hc => ?_⟩
  · obtain ⟨w, rfl⟩ := Int.eq_ofNat_of_zero_le hw.le
    obtain ⟨h, rfl⟩ := Int.eq_ofNat_of_zero_le hh.le
    have hall : ts.count .host = w * h := hcount.trans (by rw [← Int.natCast_mul, Int.toNat_natCast])
    have hpos : 0 < w * h := Nat.mul_pos (by omega) (by omega)
    obtain ⟨t, hrun, hrest, hat, hbeside⟩ := (fillCommand_runs x y r g b (by omega) (by omega)).interleaved
      hd hidle hcmds hsched hreset hall.le hpos
    rw [hall] at hat hbeside
    have hwords := hbeside.responseWords.trans (if_pos rfl)
    refine ⟨t, hrun, hrest, hat.cmds.trans (if_neg hpos.ne'), hbeside.brightness, hbeside.ic,
      hbeside.stopped, fun px py hx hy => ?_, hat.hc.trans (if_neg (by omega)),
      State.responses_of_responseWords_cons hwords, hwords⟩
    rw [State.pixRead_congr hat.fb, PixelCommand.pixRead_paint _ _ _ hx hy]
    exact if_congr (fillCommand_covers x y w h r g b px py) rfl rfl
  · have hhc := State.fillStep_hc { s with schedule := rest } dx dy x y w h r g b
    have htrace := State.fillStep_trace { s with schedule := rest } dx dy x y w h r g b
    refine ⟨_, step_host_filling hsched hc, fun px py hx hy => ?_, fun hcol => ?_, fun hcol hrow => ?_,
      fun hcol hrow => ?_, congrArg (fun t : State => { t with schedule := s.schedule })
        (State.fillStep_frame { s with schedule := rest } dx dy x y w h r g b)⟩
    · rw [State.pixRead_congr (State.fillStep_fb _ _ _ _ _ _ _ _ _ _),
        State.pixRead_putPixel _ _ _ _ _ _ hx hy]
      rfl
    · exact ⟨hhc.trans (if_pos hcol), htrace.trans (if_pos (.inl hcol))⟩
    · exact ⟨hhc.trans ((if_neg hcol).trans (if_pos hrow)), htrace.trans (if_pos (.inr hrow))⟩
    · exact ⟨hhc.trans ((if_neg hcol).trans (if_neg hrow)), htrace.trans (if_neg (not_or.2 ⟨hcol, hrow⟩))⟩

end Sys2Proof.Machine

/-! ## O16: CLEAR as a FILLRECT -/

namespace Sys2Proof.Machine

open Sys2Proof

/-- The two commands write the same pixels in the same order (40_pixel_api.md R99 (c)). -/
theorem clearCommand_pixel_eq_fillCommand_pixel (r g b : Byte) (k : Nat) :
    (clearCommand r g b).pixel k = (fillCommand 0 0 64 64 r g b).pixel k := by
  simp

/-- Settles O16: both commands run uninterrupted, with the same pixels and the same number of steps. -/
theorem clearIsAFillrectOfTheWholePanel : Obligations.ClearIsAFillrectOfTheWholePanel := by
  unfold Obligations.ClearIsAFillrectOfTheWholePanel
  intro s cwc cwf r g b n hdc hdf hidle hone hn
  obtain ⟨t, hrunt, hfbt, htracet⟩ := (clearCommand_runs r g b).uninterrupted
    (s := { s with cmds := [cwc], schedule := List.replicate n .host }) hdc hidle rfl rfl hn (by simp)
  obtain ⟨u, hrunu, hfbu, htraceu⟩ :=
    (fillCommand_runs 0 0 (w := 64) (h := 64) r g b (by decide) (by decide)).uninterrupted
      (s := { s with cmds := [cwf], schedule := List.replicate n .host }) hdf hidle rfl rfl hn (by simp)
  have hpaint := PixelCommand.paint_fb_congr
    (s := { s with cmds := [cwc], schedule := List.replicate n .host })
    (s' := { s with cmds := [cwf], schedule := List.replicate n .host })
    (clearCommand_pixel_eq_fillCommand_pixel r g b) rfl rfl rfl rfl n
  exact ⟨t, u, hrunt, hrunu, hfbt.trans (hpaint.trans hfbu.symm), htracet.trans htraceu.symm⟩

end Sys2Proof.Machine

/-! ## O41: pins, panel and row buffer in step with the phase -/

namespace Sys2Proof.Machine

open Sys2Proof

/-! ### Panel edges -/

/-- Whether the write can raise CLK or LAT. -/
def PinWrite.raises (w : PinWrite) : Bool :=
  match w with
  | .clk v | .lat v => v
  | .data _ | .oeN _ | .addr _ => false

/-- A write that raises neither CLK nor LAT moves no register of the panel (44_panel_observer.md R167,
R168). -/
theorem State.drive_quiet {s : State} (hs : PanelOk s) {w : PinWrite} (hw : w.raises = false) :
    (s.drive w).panel.sr = s.panel.sr ∧ (s.drive w).panel.outreg = s.panel.outreg := by
  obtain ⟨hclk, hlat⟩ := hs
  cases w <;> simp_all [PinWrite.raises, State.drive, Panel.observe]

/-- A rise of CLK shifts `DATA` in and leaves the output registers alone (44_panel_observer.md R167). -/
theorem State.drive_clk_rise {s : State} (hs : PanelOk s) (hclk : s.pinClk = false) :
    (s.drive (.clk true)).panel.sr = shiftIn s.panel.sr s.pinData := by
  simp [State.drive, Panel.observe, hs.1, hclk]

/-- A rise of LAT copies the shift chain to the output registers (44_panel_observer.md R168). -/
theorem State.drive_lat_rise {s : State} (hs : PanelOk s) (hlat : s.pinLat = false) :
    (s.drive (.lat true)).panel.outreg = s.panel.sr := by
  simp [State.drive, Panel.observe, hs.2, hlat]

/-! ### Shift chain and output registers -/

theorem Shifted.congr {s t : State} {n : Nat} (hs : Shifted s n) (hsr : t.panel.sr = s.panel.sr)
    (hbuf : t.rowbuf = s.rowbuf) : Shifted t n := by
  simpa [Shifted, State.stage, State.word, hsr, hbuf] using hs

theorem Latched.congr {s t : State} (hs : Latched s) (hout : t.panel.outreg = s.panel.outreg)
    (hbuf : t.rowbuf = s.rowbuf) : Latched t := by
  simpa [Latched, State.latch, State.word, hout, hbuf] using hs

theorem shifted_zero (s : State) : Shifted s 0 := fun _ hx => absurd hx (Nat.not_lt_zero _)

/-- Shifting the word of the next column in moves the others one stage on (44_panel_observer.md R167). -/
theorem Shifted.succ {s t : State} {n : Nat} (hs : Shifted s n) (hn : n < 64)
    (hsr : t.panel.sr = shiftIn s.panel.sr (s.word n)) (hbuf : t.rowbuf = s.rowbuf) :
    Shifted t (n + 1) := by
  have hword (x : Nat) : t.word x = s.word x := by simp [State.word, hbuf]
  have hstage (k : Nat) (hk : k < 64) :
      t.stage k = if k = 0 then s.word n else s.stage (k - 1) := by
    have hk' : k - 1 < 64 := by omega
    simp [State.stage, hsr, shiftIn, hk, hk']
  intro x hx
  rw [hword, hstage _ (by omega)]
  by_cases hlast : x = n
  · subst hlast; simp
  · rw [if_neg (by omega), ← hs x (by omega)]
    congr 1
    omega

/-- A full shift chain copied to the output registers is the row buffer (44_panel_observer.md R168). -/
theorem Shifted.latched {s t : State} (hs : Shifted s 64) (hout : t.panel.outreg = s.panel.sr)
    (hbuf : t.rowbuf = s.rowbuf) : Latched t := by
  simpa [Shifted, Latched, State.stage, State.latch, State.word, hout, hbuf] using hs

/-- The data bits of the entry that DATA writes to the pins (41_row_scan.md R120). -/
theorem State.rowWord_word (s : State) (c : BitVec 6) :
    (s.rowWord c).extractLsb' 0 6 = s.word c.toNat := by
  have hc : c.toNat < 64 := c.isLt
  simp [State.rowWord, State.word, hc]

/-! ### The description of the display, phase by phase -/

/-- What `DisplayOk` asks of a state in phase `p`, whether or not a PeripheralFault has occurred. -/
def DisplayAt (p : Phase) (s : State) : Prop := DisplayOk { s with phase := p, status := 0#2 }

theorem State.pf_of_status_zero {s : State} (h : s.status = 0#2) : s.pf = false := by
  simp [State.pf, h]

theorem displayOk_iff (s : State) : DisplayOk s ↔ (s.pf = false → DisplayAt s.phase s) :=
  ⟨fun h hpf _ => h hpf, fun h hpf => h hpf (State.pf_of_status_zero rfl)⟩

section
variable (s : State)

/-- LATCHB, PACK_U and PACK_L have the same description. -/
theorem displayAt_idle :
    DisplayAt .idle s ↔ s.pinOeN = true ∧ s.pinClk = false ∧ s.pinLat = false :=
  forall_prop_of_true (State.pf_of_status_zero rfl)

/-- BLANK and EXIT have the same description. -/
theorem displayAt_rowCheck :
    DisplayAt .rowCheck s ↔ s.pinClk = false ∧ s.pinLat = false ∧
      (s.pinOeN = false → s.row ≠ 0#5 ∧ s.pinAddr + 1#5 = s.row ∧ Latched s) :=
  forall_prop_of_true (State.pf_of_status_zero rfl)

theorem displayAt_data :
    DisplayAt .data s ↔ s.pinOeN = true ∧ s.pinClk = false ∧ s.pinLat = false ∧
      Shifted s s.col.toNat :=
  forall_prop_of_true (State.pf_of_status_zero rfl)

theorem displayAt_clkHi :
    DisplayAt .clkHi s ↔ s.pinOeN = true ∧ s.pinClk = false ∧ s.pinLat = false ∧
      Shifted s s.col.toNat ∧ s.pinData = s.word s.col.toNat :=
  forall_prop_of_true (State.pf_of_status_zero rfl)

theorem displayAt_clkLo :
    DisplayAt .clkLo s ↔ s.pinOeN = true ∧ s.pinClk = true ∧ s.pinLat = false ∧
      Shifted s (s.col.toNat + 1) :=
  forall_prop_of_true (State.pf_of_status_zero rfl)

theorem displayAt_addr :
    DisplayAt .addr s ↔ s.pinOeN = true ∧ s.pinClk = false ∧ s.pinLat = false ∧ Shifted s 64 :=
  forall_prop_of_true (State.pf_of_status_zero rfl)

theorem displayAt_latHi :
    DisplayAt .latHi s ↔ s.pinOeN = true ∧ s.pinClk = false ∧ s.pinLat = false ∧
      s.pinAddr = s.row ∧ Shifted s 64 :=
  forall_prop_of_true (State.pf_of_status_zero rfl)

theorem displayAt_latLo :
    DisplayAt .latLo s ↔ s.pinOeN = true ∧ s.pinClk = false ∧ s.pinLat = true ∧
      s.pinAddr = s.row ∧ Latched s :=
  forall_prop_of_true (State.pf_of_status_zero rfl)

theorem displayAt_oeOn :
    DisplayAt .oeOn s ↔ s.pinOeN = true ∧ s.pinClk = false ∧ s.pinLat = false ∧
      s.pinAddr = s.row ∧ Latched s :=
  forall_prop_of_true (State.pf_of_status_zero rfl)

theorem displayAt_dwell :
    DisplayAt .dwell s ↔ s.pinOeN = false ∧ s.pinClk = false ∧ s.pinLat = false ∧
      s.pinAddr = s.row ∧ Latched s :=
  forall_prop_of_true (State.pf_of_status_zero rfl)

theorem displayAt_frameEnd :
    DisplayAt .frameEnd s ↔ s.pinOeN = false ∧ s.pinClk = false ∧ s.pinLat = false ∧
      s.pinAddr = s.row ∧ s.row = 31#5 ∧ Latched s :=
  forall_prop_of_true (State.pf_of_status_zero rfl)

end

/-- What `DisplayAt` speaks of stands as before. -/
structure DisplaySame (s t : State) : Prop where
  row : t.row = s.row
  col : t.col = s.col
  rowbuf : t.rowbuf = s.rowbuf
  pins : PinsSame s t

theorem DisplaySame.displayAt {s t : State} (h : DisplaySame s t) {p : Phase} (hs : DisplayAt p s) :
    DisplayAt p t := by
  obtain ⟨hrow, hcol, hbuf, hdata, hclk, hlat, hoe, haddr, hpanel⟩ := h
  simpa [DisplayAt, DisplayOk, Shifted, Latched, State.stage, State.latch, State.word, State.pf,
    hrow, hcol, hbuf, hdata, hclk, hlat, hoe, haddr, hpanel] using hs

/-! ### What an engine step does to it -/

/-- The micro-operations with a pin write (41_row_scan.md R132). -/
def writesPin (p : Phase) : Bool :=
  match p with
  | .idle | .rowCheck | .latchb | .packU | .packL | .dwell => false
  | .blank | .data | .clkHi | .clkLo | .addr | .latHi | .latLo | .oeOn | .frameEnd | .exit => true

/-- BLANK blanks the panel, whatever it showed (41_row_scan.md R113). -/
theorem exec_blank_displayAt {s t : State} (h : exec .blank s = .next t) (hok : s.ioFails = false)
    (hclk : s.pinClk = false) (hlat : s.pinLat = false) : DisplayAt .latchb t := by
  cases h
  rw [State.pinWrite_ok _ hok]
  exact (displayAt_idle _).2 ⟨rfl, hclk, hlat⟩

/-- After the last dwell step the row still shown is the one before `row` (41_row_scan.md R128). -/
theorem State.advanceRow_displayAt {s : State} (hs : DisplayAt .dwell s) :
    DisplayAt s.advanceRow.phase s.advanceRow := by
  obtain ⟨hoe, hclk, hlat, haddr, hout⟩ := (displayAt_dwell s).1 hs
  unfold State.advanceRow
  split
  · next hrow => exact (displayAt_frameEnd _).2 ⟨hoe, hclk, hlat, haddr, hrow, hout⟩
  · next hrow =>
    refine (displayAt_rowCheck _).2 ⟨hclk, hlat, fun _ => ⟨?_, congrArg (· + 1#5) haddr, hout⟩⟩
    show s.row + 1#5 ≠ 0#5
    bv_omega

/-- After CLK_LO the next column is due, or after the last one the address (41_row_scan.md R122). -/
theorem State.nextCol_displayAt {s : State} (hoe : s.pinOeN = true) (hclk : s.pinClk = false)
    (hlat : s.pinLat = false) (hsh : Shifted s (s.col.toNat + 1)) :
    DisplayAt (s.nextCol .data .addr).phase (s.nextCol .data .addr) := by
  unfold State.nextCol
  split
  · next hcol => exact (displayAt_addr _).2 ⟨hoe, hclk, hlat, by rw [hcol] at hsh; exact hsh⟩
  · next hcol =>
    have hnext : (s.col + 1#6).toNat = s.col.toNat + 1 := by bv_omega
    exact (displayAt_data _).2 ⟨hoe, hclk, hlat, by rw [hnext]; exact hsh⟩

/-- A micro-operation without fault leads from the description of its phase to that of the next phase. -/
theorem exec_phaseInstr_displayAt {s t : State} (h : exec (phaseInstr s.phase) s = .next t)
    (hok : writesPin s.phase = true → s.ioFails = false) (hpanel : PanelOk s)
    (hs : DisplayAt s.phase s) : DisplayAt t.phase t := by
  have hquiet {w : PinWrite} (hw : w.raises = false) := State.drive_quiet hpanel hw
  cases hp : s.phase <;> rw [hp] at h hs hok <;> cases h
  case idle => exact hp ▸ hs
  case rowCheck =>
    show DisplayAt (if s.stopReq then .exit else .blank) _
    split <;> exact hs
  case blank =>
    obtain ⟨hclk, hlat, -⟩ := (displayAt_rowCheck s).1 hs
    exact exec_blank_displayAt rfl (hok rfl) hclk hlat
  case latchb | packU => exact hs
  case packL =>
    obtain ⟨hoe, hclk, hlat⟩ := (displayAt_idle s).1 hs
    unfold State.nextCol
    split
    · exact (displayAt_data _).2 ⟨hoe, hclk, hlat, shifted_zero _⟩
    · exact hs
  case data =>
    obtain ⟨hoe, hclk, hlat, hsh⟩ := (displayAt_data s).1 hs
    rw [State.pinWrite_ok _ (hok rfl)]
    exact (displayAt_clkHi _).2
      ⟨hoe, hclk, hlat, hsh.congr (hquiet rfl).1 rfl, s.rowWord_word s.col⟩
  case clkHi =>
    obtain ⟨hoe, hclk, hlat, hsh, hdata⟩ := (displayAt_clkHi s).1 hs
    rw [State.pinWrite_ok _ (hok rfl)]
    exact (displayAt_clkLo _).2
      ⟨hoe, rfl, hlat, hsh.succ s.col.isLt (hdata ▸ State.drive_clk_rise hpanel hclk) rfl⟩
  case clkLo =>
    obtain ⟨hoe, hclk, hlat, hsh⟩ := (displayAt_clkLo s).1 hs
    rw [State.pinWrite_ok _ (hok rfl)]
    exact State.nextCol_displayAt hoe rfl hlat
      (hsh.congr (hquiet rfl).1 rfl)
  case addr =>
    obtain ⟨hoe, hclk, hlat, hsh⟩ := (displayAt_addr s).1 hs
    rw [State.pinWrite_ok _ (hok rfl)]
    exact (displayAt_latHi _).2
      ⟨hoe, hclk, hlat, rfl, hsh.congr (hquiet rfl).1 rfl⟩
  case latHi =>
    obtain ⟨hoe, hclk, hlat, haddr, hsh⟩ := (displayAt_latHi s).1 hs
    rw [State.pinWrite_ok _ (hok rfl)]
    exact (displayAt_latLo _).2
      ⟨hoe, hclk, rfl, haddr, hsh.latched (State.drive_lat_rise hpanel hlat) rfl⟩
  case latLo =>
    obtain ⟨hoe, hclk, hlat, haddr, hout⟩ := (displayAt_latLo s).1 hs
    rw [State.pinWrite_ok _ (hok rfl)]
    exact (displayAt_oeOn _).2
      ⟨hoe, hclk, rfl, haddr, hout.congr (hquiet rfl).2 rfl⟩
  case oeOn =>
    obtain ⟨hoe, hclk, hlat, haddr, hout⟩ := (displayAt_oeOn s).1 hs
    rw [State.pinWrite_ok _ (hok rfl)]
    exact (displayAt_dwell _).2
      ⟨rfl, hclk, hlat, haddr, hout.congr (hquiet rfl).2 rfl⟩
  case dwell =>
    split
    · show DisplayAt s.phase _
      rw [hp]
      exact hs
    · exact State.advanceRow_displayAt hs
  case frameEnd =>
    obtain ⟨-, hclk, hlat, -⟩ := (displayAt_frameEnd s).1 hs
    rw [State.pinWrite_ok _ (hok rfl)]
    exact (displayAt_rowCheck _).2 ⟨hclk, hlat, fun hlit => Bool.noConfusion hlit⟩
  case exit =>
    obtain ⟨hclk, hlat, -⟩ := (displayAt_rowCheck s).1 hs
    rw [State.pinWrite_ok _ (hok rfl)]
    exact (displayAt_idle _).2 ⟨rfl, hclk, hlat⟩

/-- A flag that is clear after bits were set was clear before (10_state.md R25). -/
theorem State.pf_of_status_or {s t : State} {m : BitVec 2} (h : t.status = s.status ||| m)
    (ht : t.pf = false) : s.pf = false := by
  simp [State.pf, h] at ht
  simpa [State.pf] using ht.1

/-- A pin write that leaves PF clear did not fail (60_exceptions.md R180). -/
theorem State.ioFails_of_pinWrite_pf {s : State} {w : PinWrite} (h : (s.pinWrite w).pf = false) :
    s.ioFails = false := by
  obtain ⟨-, hfails, -, -⟩ := s.pinWrite_spec w
  by_contra hio
  obtain ⟨-, -, hst, -⟩ := hfails (by simpa using hio)
  simp [State.pf, hst] at h

/-- A micro-operation that leaves PF clear had no failing pin write. -/
theorem exec_phaseInstr_ioFails {s t : State} (h : exec (phaseInstr s.phase) s = .next t)
    (ht : t.pf = false) (hw : writesPin s.phase = true) : s.ioFails = false := by
  cases hp : s.phase <;> rw [hp] at h hw <;> cases h
  case idle | rowCheck | latchb | packU | packL | dwell => cases hw
  case clkLo => exact State.ioFails_of_pinWrite_pf (by simpa [State.pf] using ht)
  all_goals exact State.ioFails_of_pinWrite_pf ht

theorem exec_phaseInstr_displayOk {s t : State} (h : exec (phaseInstr s.phase) s = .next t)
    (hpanel : PanelOk s) (hs : DisplayOk s) : DisplayOk t := by
  rw [displayOk_iff] at hs ⊢
  intro ht
  obtain ⟨m, hm⟩ := exec_phaseInstr_status h
  exact exec_phaseInstr_displayAt h (exec_phaseInstr_ioFails h ht) hpanel
    (hs (State.pf_of_status_or hm ht))

/-! ### What a host step does to it -/

/-- A host step touches nothing that the description speaks of, but for the START that moves a stopped
engine to ROW_CHECK (60_exceptions.md R188, 43_scheduler.md R151). -/
theorem HostEffect.display {s t : State} (h : HostEffect s t) :
    (t.phase = s.phase ∧ DisplaySame s t) ∨
      (s.running = false ∧ t.phase = .rowCheck ∧ PinsSame s t) := by
  cases h
  case start _ _ hr hf => rw [← hf]; exact .inr ⟨hr, rfl, rfl, rfl, rfl, rfl, rfl, rfl⟩
  case wait _ _ hsame =>
    subst t; exact .inl ⟨rfl, rfl, rfl, rfl, rfl, rfl, rfl, rfl, rfl, rfl⟩
  case pixel _ _ hf | illegal _ _ hf | stop _ _ _ hf | answer _ _ _ hf =>
    rw [← hf]; exact .inl ⟨rfl, rfl, rfl, rfl, rfl, rfl, rfl, rfl, rfl, rfl⟩

theorem HostEffect.displayOk {s t : State} (h : HostEffect s t) (hsched : SchedulerOk s)
    (hs : DisplayOk s) : DisplayOk t := by
  rw [displayOk_iff] at hs ⊢
  intro ht
  obtain ⟨m, hm⟩ := h.status
  replace hs := hs (State.pf_of_status_or hm ht)
  rcases h.display with ⟨hphase, hsame⟩ | ⟨hstopped, hphase, -, hclk, hlat, hoe, -⟩
  · rw [hphase]
    exact hsame.displayAt hs
  · rw [hsched.1.1 hstopped, displayAt_idle] at hs
    obtain ⟨hdark, hclk', hlat'⟩ := hs
    rw [hphase, displayAt_rowCheck, hclk, hlat, hoe, hdark]
    exact ⟨hclk', hlat', fun hlit => Bool.noConfusion hlit⟩

/-- Taking a turn touches nothing that the description speaks of. -/
theorem State.nextTurn_displayOk {s : State} (hs : DisplayOk s) : DisplayOk s.nextTurn.2 := by
  rw [displayOk_iff] at hs ⊢
  have hsame : DisplaySame s s.nextTurn.2 := by constructor <;> simp [PinsSame]
  intro hpf
  rw [State.nextTurn_phase]
  exact hsame.displayAt (hs (by simpa [State.pf] using hpf))

/-- Settles O41: `exec_phaseInstr_displayOk` for an engine step, `HostEffect.displayOk` for a host step; a
reset leaves the pins as IDLE wants them. -/
theorem everyStepKeepsTheDisplayInStep : Obligations.EveryStepKeepsTheDisplayInStep := by
  unfold Obligations.EveryStepKeepsTheDisplayInStep
  intro s t hsched hpanel hs h
  replace hs := State.nextTurn_displayOk hs
  rcases step_cases h with ⟨io, -, h⟩ | ⟨-, h⟩ | ⟨-, rfl⟩
  · exact exec_phaseInstr_displayOk (s := { s.nextTurn.2 with ioErr := io }) h
      (by simpa [PanelOk] using hpanel) hs
  · exact (hostStep_effect h).displayOk (by simpa [SchedulerOk] using hsched) hs
  · exact fun _ => ⟨rfl, rfl, rfl⟩

end Sys2Proof.Machine

/-! ## O54: blank before change -/

namespace Sys2Proof.Machine

open Sys2Proof

/-- The phases in which the panel may be lit (41_row_scan.md R131). -/
theorem DisplayAt.phase_of_lit {s : State} {p : Phase} (hs : DisplayAt p s) (hlit : s.pinOeN = false) :
    p = .rowCheck ∨ p = .blank ∨ p = .exit ∨ p = .dwell ∨ p = .frameEnd := by
  have hdark : s.pinOeN ≠ true := by simp [hlit]
  cases p
  case rowCheck | blank | exit | dwell | frameEnd => simp
  case idle | latchb | packU | packL => exact absurd ((displayAt_idle s).1 hs).1 hdark
  case data => exact absurd ((displayAt_data s).1 hs).1 hdark
  case clkHi => exact absurd ((displayAt_clkHi s).1 hs).1 hdark
  case clkLo => exact absurd ((displayAt_clkLo s).1 hs).1 hdark
  case addr => exact absurd ((displayAt_addr s).1 hs).1 hdark
  case latHi => exact absurd ((displayAt_latHi s).1 hs).1 hdark
  case latLo => exact absurd ((displayAt_latLo s).1 hs).1 hdark
  case oeOn => exact absurd ((displayAt_oeOn s).1 hs).1 hdark

/-- In those phases the engine writes no pin, or `OE_n` alone (41_row_scan.md R112, R113, R127 to R130). -/
theorem exec_phaseInstr_otherPins {s t : State} (h : exec (phaseInstr s.phase) s = .next t)
    (hp : s.phase = .rowCheck ∨ s.phase = .blank ∨ s.phase = .exit ∨ s.phase = .dwell ∨
      s.phase = .frameEnd) : OtherPinsSame s t (.oeN true) := by
  have hwrite : OtherPinsSame s (s.pinWrite (.oeN true)) (.oeN true) := (s.pinWrite_spec _).2.2.1
  rcases hp with hp | hp | hp | hp | hp <;> rw [hp] at h <;> cases h
  case inr.inr.inr.inl => split <;> simp [OtherPinsSame]
  case inl => exact ⟨rfl, rfl, rfl, rfl⟩
  all_goals exact hwrite

/-- Settles O54: the panel is lit in the phases of `DisplayAt.phase_of_lit` only, and no step of these
touches the other pins. -/
theorem litPinsDoNotChange : Obligations.LitPinsDoNotChange := by
  unfold Obligations.LitPinsDoNotChange
  intro s t io hs h ht hlit
  obtain ⟨m, hm⟩ := exec_phaseInstr_status (s := { s with ioErr := io }) h
  have hat := (displayOk_iff s).1 hs (State.pf_of_status_or (s := s) hm ht)
  exact exec_phaseInstr_otherPins (s := { s with ioErr := io }) h (hat.phase_of_lit hlit)

end Sys2Proof.Machine

/-! ## O25 to O31: the micro-operations one by one -/

namespace Sys2Proof.Machine

open Sys2Proof

/-- Settles O25: the three micro-operations as they are defined, with `State.goto` written out. -/
theorem idleRowCheckAndLatchb : Obligations.IdleRowCheckAndLatchb := by
  unfold Obligations.IdleRowCheckAndLatchb
  exact fun s => ⟨rfl, rfl, rfl⟩

/-! ### Quantizing and packing -/

/-- The quantizer as a threshold on the exact product (42_quantizer.md R141). -/
theorem quantize_eq (c br : Byte) : quantize c br = decide (32768 ≤ c.toNat * br.toNat) := by
  have hprod : c.toNat * br.toNat ≤ 255 * 255 :=
    Nat.mul_le_mul (Nat.le_of_lt_succ c.isLt) (Nat.le_of_lt_succ br.isLt)
  have hc : c.toNat < 2 ^ 16 := c.isLt.trans (by decide)
  have hbr : br.toNat < 2 ^ 16 := br.isLt.trans (by decide)
  simp only [quantize, quantScaled, quantProd, BitVec.extractLsb'_toNat, BitVec.toNat_mul,
    BitVec.toNat_setWidth, Nat.mod_eq_of_lt hc, Nat.mod_eq_of_lt hbr, Nat.shiftRight_eq_div_pow]
  exact decide_eq_decide.2 (by omega)

theorem quantizePixel_getLsbD (p : Byte × Byte × Byte) (br : Byte) :
    (quantizePixel p br).getLsbD 0 = quantize p.1 br ∧
      (quantizePixel p br).getLsbD 1 = quantize p.2.1 br ∧
      (quantizePixel p br).getLsbD 2 = quantize p.2.2 br := by
  unfold quantizePixel
  generalize quantize p.1 br = r, quantize p.2.1 br = g, quantize p.2.2 br = b
  revert r g b
  decide

/-- Each bit of a quantized pixel, from the byte of its channel (20_memory.md R52, 42_quantizer.md R144). -/
theorem quantizePixel_pixRead_getLsbD (s : State) (x y : Nat) (br : Byte) (k : Fin 3) :
    (quantizePixel (s.pixRead x y) br).getLsbD k =
      decide (32768 ≤ (Memory.read s.fb ((y * 64 + x) * 3 + k)).toNat * br.toNat) := by
  obtain ⟨hr, hg, hb⟩ := quantizePixel_getLsbD (s.pixRead x y) br
  match k with
  | 0 => exact hr.trans (quantize_eq _ _)
  | 1 => exact hg.trans (quantize_eq _ _)
  | 2 => exact hb.trans (quantize_eq _ _)

/-- The fields of a packed word (30_encoding.md R72). -/
theorem packWord_getLsbD (upper lower : BitVec 3) :
    (∀ k : Fin 3, (packWord upper lower).getLsbD k = upper.getLsbD k) ∧
      (∀ k : Fin 3, (packWord upper lower).getLsbD (3 + k) = lower.getLsbD k) ∧
      (packWord upper lower).getLsbD 6 = false ∧ (packWord upper lower).getLsbD 7 = false := by
  revert upper lower
  decide

/-- Settles O26: PACK_U stores the quantized pixel, bit by bit `quantizePixel_pixRead_getLsbD`. -/
theorem packUQuantizesTheUpperPixel : Obligations.PackUQuantizesTheUpperPixel := by
  unfold Obligations.PackUQuantizesTheUpperPixel
  exact fun s => ⟨_, rfl, quantizePixel_pixRead_getLsbD s _ _ _, rfl, rfl⟩

/-! ### Columns -/

/-- `col` goes to the next column, or back to 0 after the last one (41_row_scan.md R117, R122). -/
theorem State.nextCol_col (s : State) (more last : Phase) :
    (s.nextCol more last).col = if s.col = 63#6 then 0#6 else s.col + 1#6 := by
  unfold State.nextCol
  split <;> rfl

theorem State.nextCol_phase (s : State) (more last : Phase) :
    (s.nextCol more last).phase = if s.col = 63#6 then last else more := by
  unfold State.nextCol
  split <;> rfl

theorem col_add_one_toNat {c : BitVec 6} (h : c ≠ 63#6) : (c + 1#6).toNat = c.toNat + 1 := by
  bv_omega

/-- The row buffer after a store: the word at its column, the other entries as they were. -/
theorem State.rowWord_setRowWord (s : State) (c d : BitVec 6) (w : Byte) :
    (s.setRowWord c w).rowWord d = if d = c then w else s.rowWord d := by
  have hiff : c.toNat = d.toNat ↔ d = c := by rw [BitVec.toNat_inj, eq_comm]
  simp only [State.rowWord, State.setRowWord_rowbuf, Vector.getElem_set, hiff]

/-- PACK_L's store, seen after `col` has moved on. -/
theorem exec_packL_rowWord {s t : State} (h : exec .packL s = .next t) (d : BitVec 6) :
    t.rowWord d = if d = s.col then
      packWord s.pixTmp (quantizePixel (s.pixRead s.col.toNat (s.row.toNat + 32)) s.brightLat)
    else s.rowWord d := by
  cases h
  rw [← State.rowWord_setRowWord]
  simp [State.rowWord]

/-- Settles O27: the word by `packWord_getLsbD`, the other entries by `exec_packL_rowWord`, the column by
`State.nextCol_col` and `State.nextCol_phase`. -/
theorem packLStoresThePackedWord : Obligations.PackLStoresThePackedWord := by
  unfold Obligations.PackLStoresThePackedWord
  intro s
  have hword := exec_packL_rowWord (s := s) rfl
  obtain ⟨hupper, hlower, h6, h7⟩ := packWord_getLsbD s.pixTmp
    (quantizePixel (s.pixRead s.col.toNat (s.row.toNat + 32)) s.brightLat)
  refine ⟨_, rfl, ?_⟩
  rw [hword s.col, if_pos rfl]
  refine ⟨hupper, fun k => (hlower k).trans (quantizePixel_pixRead_getLsbD s _ _ _ k), h6, h7,
    fun c hc => (hword c).trans (if_neg hc), fun hlast => ?_, fun hmore => ?_, ?_⟩
  · simp [State.nextCol_col, State.nextCol_phase, hlast]
  · simp [State.nextCol_col, State.nextCol_phase, hmore, col_add_one_toNat hmore]
  · unfold State.nextCol
    split <;> rfl

/-! ### Pin writes -/

/-- Settles O28: each is `State.pinWrite` and a move of `phase` and `col`, so `State.pinWrite_spec` gives
the pins and `State.pinWrite_frame` the rest. -/
theorem shiftPhasesWriteDataAndClock : Obligations.ShiftPhasesWriteDataAndClock := by
  unfold Obligations.ShiftPhasesWriteDataAndClock
  intro s
  refine ⟨⟨_, rfl, ?_, congrArg (·.goto .clkHi) (s.pinWrite_frame _)⟩,
    ⟨_, rfl, s.pinWrite_spec (.clk true), congrArg (·.goto .clkLo) (s.pinWrite_frame _)⟩,
    _, rfl, ?_, ?_, ?_⟩
  · rw [← s.rowWord_word s.col]
    exact s.pinWrite_spec (.data _)
  · simpa [PinWritten, State.onPins, OtherPinsSame, PinWrite.withBits] using
      s.pinWrite_spec (.clk false)
  · intro hlast
    have hcol : (s.pinWrite (.clk false)).col = 63#6 := by simpa using hlast
    rw [State.nextCol, if_pos hcol]
    exact congrArg (fun u : State => { u with phase := .addr, col := 0#6 }) (s.pinWrite_frame _)
  · intro hmore
    have hcol : (s.pinWrite (.clk false)).col ≠ 63#6 := by simpa using hmore
    rw [State.nextCol, if_neg hcol]
    exact ⟨by simpa using col_add_one_toNat hmore, congrArg (fun u : State =>
      { u with phase := .data, col := (s.pinWrite (.clk false)).col + 1#6 }) (s.pinWrite_frame _)⟩

/-- Settles O29: `State.pinWrite_spec` and `State.pinWrite_frame`. -/
theorem addressAndLatchPhasesWriteTheirPins : Obligations.AddressAndLatchPhasesWriteTheirPins := by
  unfold Obligations.AddressAndLatchPhasesWriteTheirPins
  exact fun s =>
    ⟨⟨_, rfl, s.pinWrite_spec (.addr s.row), congrArg (·.goto .latHi) (s.pinWrite_frame _)⟩,
      ⟨_, rfl, s.pinWrite_spec (.lat true), congrArg (·.goto .latLo) (s.pinWrite_frame _)⟩,
      ⟨_, rfl, s.pinWrite_spec (.lat false), congrArg (·.goto .oeOn) (s.pinWrite_frame _)⟩⟩

/-- Settles O30: `State.pinWrite_spec` and `State.pinWrite_frame`, with the registers each one writes. -/
theorem outputEnablePhasesBlankAndLight : Obligations.OutputEnablePhasesBlankAndLight := by
  unfold Obligations.OutputEnablePhasesBlankAndLight
  exact fun s =>
    ⟨⟨_, rfl, s.pinWrite_spec (.oeN true), congrArg (·.goto .latchb) (s.pinWrite_frame _)⟩,
      ⟨_, rfl, s.pinWrite_spec (.oeN false), congrArg
        (fun u : State => { u with phase := .dwell, dwellCnt := s.cfg.dwellTicks - 1 })
        (s.pinWrite_frame _)⟩,
      ⟨_, rfl, s.pinWrite_spec (.oeN true), congrArg
        (fun u : State => { u with phase := .rowCheck, row := 0#5 }) (s.pinWrite_frame _)⟩,
      ⟨_, rfl, s.pinWrite_spec (.oeN true), congrArg
        (fun u : State => { u with phase := .idle, running := false, stopReq := false })
        (s.pinWrite_frame _)⟩⟩

/-! ### The dwell -/

theorem exec_dwell_counts {s : State} {n : Nat} (h : s.dwellCnt = n + 1) :
    exec .dwell s = .next { s with dwellCnt := n } := by
  simp [exec, execDwell, h]

theorem exec_dwell_ends {s : State} (h : s.dwellCnt = 0) : exec .dwell s = .next s.advanceRow := by
  simp [exec, execDwell, h]

theorem State.advanceRow_last {s : State} (h : s.row = 31#5) :
    s.advanceRow = { s with phase := .frameEnd } := if_pos h

theorem State.advanceRow_more {s : State} (h : s.row ≠ 31#5) :
    s.advanceRow = { s with row := s.row + 1#5, phase := .rowCheck } := if_neg h

theorem row_add_one_toNat {r : BitVec 5} (h : r ≠ 31#5) : (r + 1#5).toNat = r.toNat + 1 := by
  bv_omega

/-- Settles O31: `exec_dwell_counts` and `exec_dwell_ends`. -/
theorem dwellCountsDownAndEndsTheRow : Obligations.DwellCountsDownAndEndsTheRow := by
  unfold Obligations.DwellCountsDownAndEndsTheRow
  refine fun s => ⟨fun n hn => exec_dwell_counts hn, fun hz hlast => ?_, fun hz hmore => ?_⟩
  · rw [exec_dwell_ends hz, State.advanceRow_last hlast]
  · refine ⟨_, exec_dwell_ends hz, ?_⟩
    rw [State.advanceRow_more hmore]
    exact ⟨row_add_one_toNat hmore, rfl, rfl⟩

end Sys2Proof.Machine

/-! ## O57: the dwell -/

namespace Sys2Proof.Machine

open Sys2Proof

/-- The steps of a dwell, whatever `io_err` does: they count down, and the last one ends the row. -/
theorem run_dwell {s : State} {rest : List Turn} {ios : List Bool} (hp : s.phase = .dwell)
    (hlen : ios.length = s.dwellCnt + 1) (hsched : s.schedule = ios.map .engine ++ rest) :
    ∃ io, Host.Core.run core (s.dwellCnt + 1) s =
      .next ({ s with dwellCnt := 0, schedule := rest, ioErr := io } : State).advanceRow := by
  induction hn : s.dwellCnt generalizing s ios with
  | zero =>
    obtain ⟨io, rfl⟩ := List.length_eq_one_iff.1 (hn ▸ hlen)
    refine ⟨io, run_succ 0 ?_⟩
    rw [step_engine hsched, hp, ← hn]
    exact exec_dwell_ends hn
  | succ n ih =>
    obtain ⟨io, ios, rfl⟩ := List.exists_cons_of_length_eq_add_one hlen
    have hstep : step s =
        .next { s with schedule := ios.map .engine ++ rest, ioErr := io, dwellCnt := n } := by
      rw [step_engine hsched, hp]
      exact exec_dwell_counts hn
    obtain ⟨io', hrun⟩ := ih (ios := ios) (s := { s with
      schedule := ios.map .engine ++ rest, ioErr := io, dwellCnt := n }) hp (by simpa [hn] using hlen)
      rfl rfl
    exact ⟨io', (run_succ _ hstep).trans hrun⟩

/-- Settles O57: `run_dwell`, where `State.advanceRow` says which row comes next. -/
theorem theDwellLastsDwellTicksSteps : Obligations.TheDwellLastsDwellTicksSteps := by
  unfold Obligations.TheDwellLastsDwellTicksSteps
  intro s rest ios hp hlen hsched
  obtain ⟨io, hrun⟩ := run_dwell hp hlen hsched
  refine ⟨_, hrun, fun hlast => ?_, fun hmore => ?_, by simp [PinsSame], by simp, by simp, by simp,
    fun hticks hcnt => ?_⟩
  · simp [State.advanceRow, hlast]
  · simp [State.advanceRow, hmore, row_add_one_toNat hmore]
  · rw [← hrun, show s.dwellCnt + 1 = s.cfg.dwellTicks by omega]

end Sys2Proof.Machine

/-! ## O56: one row -/

namespace Sys2Proof.Machine

open Sys2Proof

/-! ### Runs of engine steps without fault -/

/-- The induction over a run of engine steps without fault: `P k` after `k` of them. -/
theorem run_engine_induct {P : Nat → State → Prop} {n : Nat} {rest : List Turn}
    (hturn : ∀ k s ts, P k s → P k { s with schedule := ts, ioErr := false })
    (hstep : ∀ k s t, k < n → P k s → s.ioFails = false → exec (phaseInstr s.phase) s = .next t →
      P (k + 1) t) :
    ∀ m k s, k + m = n → P k s → s.schedule = List.replicate m (.engine false) ++ rest →
      ∃ t : State, Host.Core.run core m s = .next t ∧ P n t ∧ t.schedule = rest
  | 0, k, s, hk, hP, hsched => ⟨s, rfl, hk ▸ hP, hsched⟩
  | m + 1, k, s, hk, hP, hsched => by
    rw [List.replicate_succ, List.cons_append] at hsched
    obtain ⟨t, ht⟩ := exec_total (phaseInstr s.phase)
      { s with schedule := List.replicate m (.engine false) ++ rest, ioErr := false }
    obtain ⟨u, hu, hPu⟩ := run_engine_induct hturn hstep m (k + 1) t (by omega)
      (hstep k _ t (by omega) (hturn k s _ hP) (by simp [State.ioFails]) ht) (exec_turns ht).1
    exact ⟨u, (run_succ m ((step_engine hsched).trans ht)).trans hu, hPu⟩

/-! ### Where a row stands after some steps -/

/-- The engine stands `k` steps after the ROW_CHECK that began the row (41_row_scan.md R132, R133). -/
def AtRowStep (k : Nat) (s : State) : Prop :=
  match s.phase with
  | .rowCheck => k = 0
  | .blank => k = 1
  | .latchb => k = 2
  | .packU => k = 3 + 2 * s.col.toNat
  | .packL => k = 4 + 2 * s.col.toNat
  | .data => k = 131 + 3 * s.col.toNat
  | .clkHi => k = 132 + 3 * s.col.toNat
  | .clkLo => k = 133 + 3 * s.col.toNat
  | .addr => k = 323 ∧ s.col = 0#6
  | .latHi => k = 324 ∧ s.col = 0#6
  | .latLo => k = 325 ∧ s.col = 0#6
  | .oeOn => k = 326 ∧ s.col = 0#6
  | .dwell => k = 327 ∧ s.col = 0#6 ∧ s.dwellCnt = s.cfg.dwellTicks - 1
  | .idle | .frameEnd | .exit => False

/-- The steps of a row follow one another as R132 lists them. -/
theorem AtRowStep.succ {k : Nat} {s t : State} (hs : AtRowStep k s) (hk : k < 327)
    (hreq : s.stopReq = false) (h : exec (phaseInstr s.phase) s = .next t) : AtRowStep (k + 1) t := by
  unfold AtRowStep at hs ⊢
  cases hp : s.phase <;> rw [hp] at h hs <;> cases h
  case packL | clkLo =>
    by_cases hc : s.col = 63#6
    · simp_all [State.nextCol_phase, State.nextCol_col]
    · simp_all [State.nextCol_phase, State.nextCol_col, col_add_one_toNat hc]
      omega
  case packU | data | clkHi => simp [hs]; omega
  case dwell => exact absurd hs.1 hk.ne
  all_goals simp_all

/-- The packed words of the row (30_encoding.md R72, 41_row_scan.md R118). -/
def State.column (s : State) (x : Nat) : Byte := columnWord s.fb s.brightness s.row.toNat x

/-- The row buffer of `t` holds the packed words of columns 0 to `n - 1` of the row begun at `s`. -/
def PackedTo (s t : State) (n : Nat) : Prop :=
  ∀ c : BitVec 6, c.toNat < n → t.rowWord c = s.column c.toNat

/-- How far the row begun at `s` is packed (41_row_scan.md R115 to R118). -/
def RowPacked (s t : State) : Prop :=
  match t.phase with
  | .packU => t.brightLat = s.brightness ∧ PackedTo s t t.col.toNat
  | .packL =>
    t.brightLat = s.brightness ∧ PackedTo s t t.col.toNat ∧
      t.pixTmp = quantizePixel (s.pixRead t.col.toNat s.row.toNat) s.brightness
  | .data | .clkHi | .clkLo | .addr | .latHi | .latLo | .oeOn | .dwell => PackedTo s t 64
  | .idle | .rowCheck | .blank | .latchb | .frameEnd | .exit => True

/-- The pin writes of the row so far, in order of time, when column `x` carries `W x` (R132). -/
def rowTraceTo (W : Nat → Byte) (t : State) : List Output :=
  match t.phase with
  | .latchb | .packU | .packL => [.pin (.oeN true)]
  | .data => .pin (.oeN true) :: shiftTrace W t.col.toNat
  | .clkHi =>
    .pin (.oeN true) :: shiftTrace W t.col.toNat ++
      [.pin (.data ((W t.col.toNat).extractLsb' 0 6))]
  | .clkLo =>
    .pin (.oeN true) :: shiftTrace W t.col.toNat ++
      [.pin (.data ((W t.col.toNat).extractLsb' 0 6)), .pin (.clk true)]
  | .addr => .pin (.oeN true) :: shiftTrace W 64
  | .latHi => .pin (.oeN true) :: shiftTrace W 64 ++ [.pin (.addr t.row)]
  | .latLo => .pin (.oeN true) :: shiftTrace W 64 ++ [.pin (.addr t.row), .pin (.lat true)]
  | .oeOn =>
    .pin (.oeN true) :: shiftTrace W 64 ++
      [.pin (.addr t.row), .pin (.lat true), .pin (.lat false)]
  | .dwell => rowTrace W t.row
  | .idle | .rowCheck | .blank | .frameEnd | .exit => []

/-- What a row leaves alone (60_exceptions.md R188, 41_row_scan.md R128). -/
structure RowSame (s t : State) : Prop where
  cfg : t.cfg = s.cfg
  fb : t.fb = s.fb
  brightness : t.brightness = s.brightness
  status : t.status = s.status
  running : t.running = s.running
  stopReq : t.stopReq = s.stopReq
  row : t.row = s.row

theorem RowSame.trans {s t u : State} (h : RowSame s t) (h' : RowSame t u) : RowSame s u :=
  ⟨h'.cfg.trans h.cfg, h'.fb.trans h.fb, h'.brightness.trans h.brightness, h'.status.trans h.status,
    h'.running.trans h.running, h'.stopReq.trans h.stopReq, h'.row.trans h.row⟩

/-- `t` is where `k` engine steps without fault lead from the ROW_CHECK `s`. -/
structure RowRun (s : State) (k : Nat) (t : State) : Prop where
  position : AtRowStep k t
  same : RowSame s t
  panel : PanelOk t
  packed : RowPacked s t
  trace : t.trace = (rowTraceTo s.column t).reverse ++ s.trace
  /-- Until BLANK has run the panel may still show the row before (R112). -/
  display : if k < 2 then t.pinClk = false ∧ t.pinLat = false else DisplayAt t.phase t

/-! ### One step of a row -/

/-- Only the dwell, FRAME_END and EXIT write `row` or the scheduler flags. -/
theorem exec_phaseInstr_rowSame {k : Nat} {s t : State} (hs : AtRowStep k s) (hk : k < 327)
    (h : exec (phaseInstr s.phase) s = .next t) (hok : s.ioFails = false) : RowSame s t := by
  unfold AtRowStep at hs
  cases hp : s.phase <;> rw [hp] at h hs <;> cases h
  case idle | frameEnd | exit => exact hs.elim
  case dwell => exact absurd hs.1 hk.ne
  all_goals constructor <;> simp [State.pinWrite_ok _ hok]

/-- No engine step moves the panel's previous levels away from the pins (44_panel_observer.md R165). -/
theorem exec_phaseInstr_panelOk {s t : State} (h : exec (phaseInstr s.phase) s = .next t)
    (hs : PanelOk s) : PanelOk t := by
  cases hp : s.phase <;> rw [hp] at h <;> cases h
  case idle | rowCheck | latchb | packU => exact hs
  case packL => simpa [PanelOk] using hs
  case dwell => split <;> simpa [PanelOk] using hs
  case clkLo => simpa [PanelOk] using s.pinWrite_panelOk (.clk false)
  all_goals exact s.pinWrite_panelOk _

theorem PackedTo.congr {s t u : State} {n : Nat} (hs : PackedTo s t n) (h : u.rowbuf = t.rowbuf) :
    PackedTo s u n := by
  simpa [PackedTo, State.rowWord, h] using hs

/-- PACK_L stores the packed word of its column (41_row_scan.md R117). -/
theorem exec_packL_packedTo {s t u : State} (h : exec .packL t = .next u) (hsame : RowSame s t)
    (hbright : t.brightLat = s.brightness) (hto : PackedTo s t t.col.toNat)
    (htmp : t.pixTmp = quantizePixel (s.pixRead t.col.toNat s.row.toNat) s.brightness) :
    PackedTo s u (t.col.toNat + 1) := by
  intro c hc
  rw [exec_packL_rowWord h]
  split
  · next heq =>
    rw [heq, htmp, hbright, hsame.row, State.pixRead_congr hsame.fb]
    rfl
  · next hne => exact hto c (by bv_omega)

/-- The packing goes on column by column and then stands (41_row_scan.md R115 to R118). -/
theorem RowPacked.step {s t u : State} (hs : RowPacked s t) (hsame : RowSame s t)
    (h : exec (phaseInstr t.phase) t = .next u) (hd : t.phase ≠ .dwell) : RowPacked s u := by
  unfold RowPacked at hs ⊢
  cases hp : t.phase <;> rw [hp] at h hs
  case idle => cases h; rw [hp]; trivial
  case rowCheck => cases h; cases t.stopReq <;> simp
  case blank | exit | frameEnd => cases h; trivial
  case latchb =>
    cases h
    exact ⟨hsame.brightness, fun c hc => absurd hc (Nat.not_lt_zero _)⟩
  case packU =>
    cases h
    obtain ⟨hbright, hto⟩ := hs
    refine ⟨hbright, hto, ?_⟩
    simp [hbright, hsame.row, State.pixRead_congr hsame.fb]
  case packL =>
    obtain ⟨hbright, hto, htmp⟩ := hs
    have hto' := exec_packL_packedTo h hsame hbright hto htmp
    cases h
    rw [State.nextCol_phase, State.nextCol_col]
    by_cases hc : t.col = 63#6
    · simpa [hc] using hto'
    · simpa [hc, col_add_one_toNat hc, hbright] using hto'
  case dwell => exact absurd hp hd
  case clkLo =>
    cases h
    rw [State.nextCol_phase]
    by_cases hc : t.col = 63#6
    · simpa [hc] using hs.congr (by simp)
    · simpa [hc] using hs.congr (by simp)
  all_goals
    cases h
    show PackedTo s _ 64
    exact hs.congr (by simp)

/-- A step without fault adds its own pin write to the trace of the row. -/
theorem rowTraceTo_step {k : Nat} {s t u : State} (hat : AtRowStep k t) (hk : k < 327)
    (hpacked : RowPacked s t) (h : exec (phaseInstr t.phase) t = .next u) (hok : t.ioFails = false)
    (hs : t.trace = (rowTraceTo s.column t).reverse ++ s.trace) :
    u.trace = (rowTraceTo s.column u).reverse ++ s.trace := by
  unfold AtRowStep at hat
  unfold RowPacked at hpacked
  unfold rowTraceTo at hs ⊢
  cases hp : t.phase <;> rw [hp] at h hat hs hpacked <;> cases h
  case idle | frameEnd | exit => exact hat.elim
  case dwell => exact absurd hat.1 hk.ne
  case rowCheck => cases t.stopReq <;> simp [hs]
  case packL =>
    simp only [State.nextCol_phase, State.nextCol_col]
    by_cases hc : t.col = 63#6
    · simp [hc, hs, shiftTrace]
    · simp [hc, hs]
  case data =>
    simp [State.pinWrite_ok _ hok, hs, hpacked t.col t.col.isLt]
  case clkLo =>
    simp only [State.nextCol_phase, State.nextCol_col, State.pinWrite_col]
    by_cases hc : t.col = 63#6
    · have hfull : shiftTrace s.column 64 = shiftTrace s.column 63 ++ [_, _, _] := rfl
      simp [State.pinWrite_ok _ hok, hs, hc, hfull]
    · simp [State.pinWrite_ok _ hok, hs, hc, col_add_one_toNat hc, shiftTrace]
  all_goals simp [State.pinWrite_ok _ hok, hs, rowTrace]

section
variable {t : State}

theorem AtRowStep.zero (h : AtRowStep 0 t) : t.phase = .rowCheck := by
  unfold AtRowStep at h
  cases hp : t.phase <;> simp [hp] at h ⊢ <;> omega

theorem AtRowStep.one (h : AtRowStep 1 t) : t.phase = .blank := by
  unfold AtRowStep at h
  cases hp : t.phase <;> simp [hp] at h ⊢ <;> omega

theorem AtRowStep.last (h : AtRowStep 327 t) :
    t.phase = .dwell ∧ t.col = 0#6 ∧ t.dwellCnt = t.cfg.dwellTicks - 1 := by
  unfold AtRowStep at h
  have hcol := t.col.isLt
  cases hp : t.phase <;> simp [hp] at h ⊢ <;> omega

theorem AtRowStep.phase_ne_dwell {k : Nat} (h : AtRowStep k t) (hk : k < 327) :
    t.phase ≠ .dwell := by
  unfold AtRowStep at h
  intro hp
  rw [hp] at h
  exact hk.ne h.1

end

/-- A step of the row keeps the description of the display, which holds from BLANK's step on. -/
theorem rowDisplay_step {k : Nat} {t u : State} (hat : AtRowStep k t) (hpanel : PanelOk t)
    (h : exec (phaseInstr t.phase) t = .next u) (hok : t.ioFails = false)
    (hs : if k < 2 then t.pinClk = false ∧ t.pinLat = false else DisplayAt t.phase t) :
    if k + 1 < 2 then u.pinClk = false ∧ u.pinLat = false else DisplayAt u.phase u := by
  match k with
  | 0 =>
    rw [hat.zero] at h
    cases h
    exact hs
  | 1 =>
    obtain ⟨hclk, hlat⟩ := hs
    have hp := hat.one
    rw [hp] at h
    have hnext : u.phase = .latchb := by cases h; rfl
    simpa [hnext] using exec_blank_displayAt h hok hclk hlat
  | k + 2 => exact exec_phaseInstr_displayAt h (fun _ => hok) hpanel hs

theorem RowRun.step {s : State} {k : Nat} {t u : State} (ht : RowRun s k t) (hk : k < 327)
    (hreq : s.stopReq = false) (hok : t.ioFails = false)
    (h : exec (phaseInstr t.phase) t = .next u) : RowRun s (k + 1) u where
  position := ht.position.succ hk (ht.same.stopReq.trans hreq) h
  same := ht.same.trans (exec_phaseInstr_rowSame ht.position hk h hok)
  panel := exec_phaseInstr_panelOk h ht.panel
  packed := ht.packed.step ht.same h (ht.position.phase_ne_dwell hk)
  trace := rowTraceTo_step ht.position hk ht.packed h hok ht.trace
  display := rowDisplay_step ht.position ht.panel h hok ht.display

/-- The engine can begin a row: no stop request, CLK and LAT low, the panel in step with them. -/
structure RowReady (s : State) : Prop where
  stopReq : s.stopReq = false
  panel : PanelOk s
  clk : s.pinClk = false
  lat : s.pinLat = false

/-- A row without fault, from its ROW_CHECK to the step that lights it (41_row_scan.md R132). -/
theorem run_row {s : State} {rest : List Turn} (hp : s.phase = .rowCheck) (hs : RowReady s)
    (hsched : s.schedule = List.replicate 327 (.engine false) ++ rest) :
    ∃ t : State, Host.Core.run core 327 s = .next t ∧ RowRun s 327 t ∧ t.schedule = rest := by
  refine run_engine_induct (P := RowRun s) (n := 327) ?_ ?_ 327 0 s (Nat.zero_add _) ?_ hsched
  · rintro k t ts ⟨hat, ⟨hcfg, hfb, hbr, hst, hrun, hq, hrow⟩, hpan, hpacked, htrace, hdisp⟩
    exact ⟨hat, ⟨hcfg, hfb, hbr, hst, hrun, hq, hrow⟩, hpan, hpacked, htrace, hdisp⟩
  · exact fun k t u hk ht hok h => ht.step hk hs.stopReq hok h
  · exact ⟨by simp [AtRowStep, hp], ⟨rfl, rfl, rfl, rfl, rfl, rfl, rfl⟩, hs.panel,
      by simp [RowPacked, hp], by simp [rowTraceTo, hp], hs.clk, hs.lat⟩

/-- Where the step that lights the row leaves the block (41_row_scan.md R126). -/
theorem RowRun.lit {s t : State} (h : RowRun s 327 t) :
    t.phase = .dwell ∧ t.col = 0#6 ∧ t.dwellCnt = s.cfg.dwellTicks - 1 ∧ PackedTo s t 64 ∧
      DisplayAt .dwell t ∧ t.trace = (rowTrace s.column s.row).reverse ++ s.trace := by
  obtain ⟨hat, hsame, -, hpacked, htrace, hdisp⟩ := h
  obtain ⟨hphase, hcol, hcnt⟩ := hat.last
  refine ⟨hphase, hcol, hsame.cfg ▸ hcnt, ?_, ?_, ?_⟩
  · simpa [RowPacked, hphase] using hpacked
  · simpa [hphase] using hdisp
  · simpa [rowTraceTo, hphase, hsame.row] using htrace

/-- Settles O56: `run_row`, read off at its last state. -/
theorem oneRowIsPackedShiftedLatchedAndLit : Obligations.OneRowIsPackedShiftedLatchedAndLit := by
  unfold Obligations.OneRowIsPackedShiftedLatchedAndLit
  intro s rest hp hreq hpanel hclk hlat hsched
  obtain ⟨t, hrun, hrow, hrest⟩ := run_row hp ⟨hreq, hpanel, hclk, hlat⟩ hsched
  obtain ⟨hphase, hcol, hcnt, hpacked, hdisp, htrace⟩ := hrow.lit
  obtain ⟨hoe, hclk', hlat', haddr, hout⟩ := (displayAt_dwell t).1 hdisp
  obtain ⟨hcfg, hfb, hbright, hstatus, hrunning, hreq', hrow'⟩ := hrow.same
  exact ⟨t, hrun, hphase, hcnt, hrow', hcol, hoe, haddr.trans hrow', hclk', hlat', hrow.panel,
    fun c => hpacked c c.isLt, hout, htrace, hfb, hbright, hstatus, hrunning, hreq'.trans hreq, hcfg,
    hrest⟩

end Sys2Proof.Machine

/-! ## O58: one frame -/

namespace Sys2Proof.Machine

open Sys2Proof

/-! ### Counting pin writes -/

/-- The output is a pin write. -/
def Output.IsPin (o : Output) : Prop := ∃ w, o = .pin w

theorem State.pinWrites_of_trace {s t : State} {os : List Output}
    (h : t.trace = os.reverse ++ s.trace) (hos : ∀ o ∈ os, o.IsPin) :
    t.pinWrites = s.pinWrites + os.length := by
  simp only [State.pinWrites, h, List.filter_append, List.filter_reverse]
  rw [List.filter_eq_self (l := os) |>.2 fun o ho => by obtain ⟨w, rfl⟩ := hos o ho; rfl]
  simp [Nat.add_comm]

theorem shiftTrace_isPin (W : Nat → Byte) (n : Nat) : ∀ o ∈ shiftTrace W n, o.IsPin := by
  induction n with
  | zero => simp [shiftTrace]
  | succ n ih => simpa [shiftTrace, or_imp, forall_and, Output.IsPin] using ih

theorem shiftTrace_length (W : Nat → Byte) (n : Nat) : (shiftTrace W n).length = 3 * n := by
  induction n with
  | zero => rfl
  | succ n ih => simp [shiftTrace, ih]; omega

theorem rowTrace_isPin (W : Nat → Byte) (r : BitVec 5) : ∀ o ∈ rowTrace W r, o.IsPin := by
  simpa [rowTrace, or_imp, forall_and, Output.IsPin] using shiftTrace_isPin W 64

/-- A row makes 197 pin writes (41_row_scan.md R132). -/
theorem rowTrace_length (W : Nat → Byte) (r : BitVec 5) : (rowTrace W r).length = 197 := by
  simp [rowTrace, shiftTrace_length]

/-! ### A row and its dwell -/

/-- What a frame leaves alone. -/
structure FrameSame (s t : State) : Prop where
  cfg : t.cfg = s.cfg
  fb : t.fb = s.fb
  brightness : t.brightness = s.brightness
  status : t.status = s.status

theorem FrameSame.trans {s t u : State} (h : FrameSame s t) (h' : FrameSame t u) : FrameSame s u :=
  ⟨h'.cfg.trans h.cfg, h'.fb.trans h.fb, h'.brightness.trans h.brightness, h'.status.trans h.status⟩

/-- `t` is where the row begun at `s` and its dwell lead (41_row_scan.md R128). -/
structure RowDone (s t : State) : Prop where
  same : FrameSame s t
  ready : RowReady t
  pinWrites : t.pinWrites = s.pinWrites + 197
  last : s.row = 31#5 → t.phase = .frameEnd
  more : s.row ≠ 31#5 → t.phase = .rowCheck ∧ t.row.toNat = s.row.toNat + 1

/-- A row without fault takes `327 + DWELL_TICKS` engine steps (41_row_scan.md R133). -/
theorem run_row_dwell {s : State} {rest : List Turn} (hp : s.phase = .rowCheck) (hs : RowReady s)
    (hticks : 1 ≤ s.cfg.dwellTicks)
    (hsched : s.schedule = List.replicate (327 + s.cfg.dwellTicks) (.engine false) ++ rest) :
    ∃ t : State, Host.Core.run core (327 + s.cfg.dwellTicks) s = .next t ∧ RowDone s t ∧
      t.schedule = rest := by
  rw [← List.replicate_append_replicate, List.append_assoc] at hsched
  obtain ⟨t, hrun, hrow, hrest⟩ := run_row hp hs hsched
  obtain ⟨hphase, -, hcnt, -, hdisp, htrace⟩ := hrow.lit
  obtain ⟨-, hclk, hlat, -, -⟩ := (displayAt_dwell t).1 hdisp
  obtain ⟨hcfg, hfb, hbright, hstatus, -, hreq, hrow'⟩ := hrow.same
  have hcount : t.dwellCnt + 1 = s.cfg.dwellTicks := by omega
  obtain ⟨io, hdwell⟩ := run_dwell (ios := List.replicate s.cfg.dwellTicks false) hphase
    (by simp [hcount]) (by rw [hrest, List.map_replicate])
  rw [hcount] at hdwell
  refine ⟨_, (run_add 327 _ hrun).trans hdwell, ⟨?_, ?_, ?_, ?_, ?_⟩, by simp⟩
  · exact ⟨by simpa using hcfg, by simpa using hfb, by simpa using hbright, by simpa using hstatus⟩
  · exact ⟨by simpa using hreq.trans hs.stopReq, by simpa [PanelOk] using hrow.panel,
      by simpa using hclk, by simpa using hlat⟩
  · rw [State.pinWrites_of_trace (s := s) (by simpa using htrace) (rowTrace_isPin _ _),
      rowTrace_length]
  · intro hlast
    simp [State.advanceRow, hrow', hlast]
  · intro hmore
    simp [State.advanceRow, hrow', hmore, row_add_one_toNat hmore]

/-! ### Rows in sequence -/

/-- `t` stands at the ROW_CHECK of row `r` of the frame begun at `s`. -/
structure FrameRow (s : State) (r : Nat) (t : State) : Prop where
  phase : t.phase = .rowCheck
  row : t.row.toNat = r
  ready : RowReady t
  same : FrameSame s t
  pinWrites : t.pinWrites = s.pinWrites + 197 * r

theorem FrameRow.next {s t u : State} {r : Nat} (ht : FrameRow s r t) (hr : r < 31)
    (h : RowDone t u) : FrameRow s (r + 1) u := by
  obtain ⟨hphase, hrow⟩ := h.more fun h31 => by simp [← ht.row, h31] at hr
  exact ⟨hphase, by rw [hrow, ht.row], h.ready, ht.same.trans h.same,
    by rw [h.pinWrites, ht.pinWrites]; omega⟩

/-- The first `r` rows of a frame without fault. -/
theorem run_rows {s : State} (hp : s.phase = .rowCheck) (hrow : s.row = 0#5) (hs : RowReady s)
    (hticks : 1 ≤ s.cfg.dwellTicks) (r : Nat) (hr : r ≤ 31) (rest : List Turn)
    (hsched : s.schedule =
      List.replicate (r * (327 + s.cfg.dwellTicks)) (.engine false) ++ rest) :
    ∃ t : State, Host.Core.run core (r * (327 + s.cfg.dwellTicks)) s = .next t ∧ FrameRow s r t ∧
      t.schedule = rest := by
  induction r generalizing rest with
  | zero =>
    refine ⟨s, by simp [Host.Core.run], ⟨hp, by simp [hrow], hs, ⟨rfl, rfl, rfl, rfl⟩, rfl⟩, ?_⟩
    simpa using hsched
  | succ r ih =>
    rw [Nat.succ_mul, ← List.replicate_append_replicate, List.append_assoc] at hsched
    obtain ⟨t, hrun, ht, hrest⟩ := ih (by omega) _ hsched
    rw [← ht.same.cfg] at hrest hticks
    obtain ⟨u, hrun', hu, hrest'⟩ := run_row_dwell ht.phase ht.ready hticks hrest
    rw [ht.same.cfg] at hrun'
    exact ⟨u, by rw [Nat.succ_mul, run_add _ _ hrun, hrun'], ht.next (by omega) hu, hrest'⟩

/-- FRAME_END without fault blanks the panel and starts again at row 0 (41_row_scan.md R129). -/
theorem exec_frameEnd_ok {s : State} (hok : s.ioFails = false) :
    exec .frameEnd s =
      .next (({ s.drive (.oeN true) with row := 0#5 } : State).goto .rowCheck) := by
  rw [← State.pinWrite_ok _ hok]
  rfl

/-- Settles O58: 31 rows by `run_rows`, the last one by `run_row_dwell`, then FRAME_END. -/
theorem oneFrameTakesItsStepsAndPinWrites : Obligations.OneFrameTakesItsStepsAndPinWrites := by
  unfold Obligations.OneFrameTakesItsStepsAndPinWrites
  intro s rest hp hrow hreq hpanel hclk hlat hticks hsched
  have hsteps : 32 * (327 + s.cfg.dwellTicks) + 1 =
      31 * (327 + s.cfg.dwellTicks) + ((327 + s.cfg.dwellTicks) + 1) := by omega
  rw [hsteps] at hsched ⊢
  rw [← List.replicate_append_replicate, ← List.replicate_append_replicate, List.append_assoc,
    List.append_assoc] at hsched
  obtain ⟨t, hrun, ht, hrest⟩ := run_rows hp hrow ⟨hreq, hpanel, hclk, hlat⟩ hticks 31 le_rfl _ hsched
  rw [← ht.same.cfg] at hrest hticks
  obtain ⟨u, hrun', hu, hrest'⟩ := run_row_dwell ht.phase ht.ready hticks hrest
  rw [ht.same.cfg] at hrun'
  have hlast : u.phase = .frameEnd := hu.last (BitVec.eq_of_toNat_eq ht.row)
  have hend : step u = .next _ := (step_engine hrest').trans <| by
    rw [hlast]
    exact exec_frameEnd_ok (by simp [State.ioFails])
  have hframe := (run_add _ _ hrun).trans ((run_add _ 1 hrun').trans (run_succ 0 hend))
  refine ⟨_, hframe, rfl, rfl, rfl, ?_, (ht.same.trans hu.same).fb, (ht.same.trans hu.same).status, rfl⟩
  rw [State.pinWrites_of_trace (s := u) (os := [.pin (.oeN true)]) rfl (by simp [Output.IsPin]),
    hu.pinWrites, ht.pinWrites]
  rfl

end Sys2Proof.Machine

/-! ## O33 to O35: the pixel quantizer -/

namespace Sys2Proof.Machine

open Sys2Proof

/-! ### The exact product and the scaled value -/

theorem quantProd_toNat (c br : Byte) : (quantProd c br).toNat = c.toNat * br.toNat := by
  have hprod : c.toNat * br.toNat < 2 ^ 16 := BitVec.toNat_mul_toNat_lt
  simpa [quantProd] using hprod

theorem quantScaled_toNat (c br : Byte) : (quantScaled c br).toNat = c.toNat * br.toNat / 256 := by
  have hprod : c.toNat * br.toNat < 2 ^ 16 := BitVec.toNat_mul_toNat_lt
  rw [quantScaled, BitVec.extractLsb'_toNat, quantProd_toNat, Nat.shiftRight_eq_div_pow]
  omega

/-- Settles O33: the definition read through `quantScaled_toNat`, the threshold by `quantize_eq`, and the
most significant bit of a word as the comparison of its value with half its range. -/
theorem quantizerIsTheTopBitOfTheProduct : Obligations.QuantizerIsTheTopBitOfTheProduct := by
  unfold Obligations.QuantizerIsTheTopBitOfTheProduct
  intro c br
  have hprod : (quantProd c br).getLsbD 15 = decide (32768 ≤ (quantProd c br).toNat) :=
    (quantProd c br).msb_eq_getLsbD_last.symm.trans (BitVec.msb_eq_decide _)
  have hscaled : (quantScaled c br).getLsbD 7 = decide (128 ≤ (quantScaled c br).toNat) :=
    (quantScaled c br).msb_eq_getLsbD_last.symm.trans (BitVec.msb_eq_decide _)
  refine ⟨?_, quantize_eq c br, ?_, hscaled.symm⟩
  · rw [quantize, quantScaled_toNat]
  · rw [hprod, quantProd_toNat, quantize_eq]

/-! ### Monotonicity and the threshold -/

theorem quantize_eq_true_iff (c br : Byte) :
    quantize c br = true ↔ 32768 ≤ c.toNat * br.toNat := by
  rw [quantize_eq, decide_eq_true_iff]

/-- At brightness 128 or less the whole panel is black (42_quantizer.md R143 (a)). -/
theorem quantize_eq_false_of_le (c : Byte) {br : Byte} (hbr : br.toNat ≤ 128) :
    quantize c br = false := by
  have hprod : c.toNat * br.toNat ≤ 255 * 128 := Nat.mul_le_mul (Nat.le_of_lt_succ c.isLt) hbr
  rw [quantize_eq, decide_eq_false_iff_not]
  omega

/-- Settles O34: each part is about the product of `quantize_eq_true_iff`; the rounded-up quotient is at
most `c` exactly when the product of `c` reaches the dividend. -/
theorem quantizerIsMonotoneWithThreshold : Obligations.QuantizerIsMonotoneWithThreshold := by
  unfold Obligations.QuantizerIsMonotoneWithThreshold
  refine ⟨fun c c' br br' hc hbr hlit => ?_, fun c br hbr => ?_,
    fun c _ hbr => quantize_eq_false_of_le c hbr⟩
  · rw [quantize_eq_true_iff] at hlit ⊢
    exact hlit.trans (Nat.mul_le_mul hc hbr)
  · rw [quantize_eq_true_iff, Nat.div_le_iff_le_mul_add_pred (by omega), Nat.mul_comm]
    omega

/-! ### The round trip -/

/-- A dark bit survives at every brightness (42_quantizer.md R146). -/
theorem quantize_quantizeInv_false (br : Byte) : quantize (quantizeInv false) br = false := by
  simp [quantize_eq, quantizeInv]

/-- From brightness 129 both bits survive, for `255 * 129` reaches the threshold (42_quantizer.md R146). -/
theorem quantize_quantizeInv {br : Byte} (hbr : 129 ≤ br.toNat) (bit : Bool) :
    quantize (quantizeInv bit) br = bit := by
  cases bit with
  | false => exact quantize_quantizeInv_false br
  | true =>
    have hprod : 255 * 129 ≤ 255 * br.toNat := Nat.mul_le_mul_left 255 hbr
    refine (quantize_eq_true_iff _ _).2 ?_
    change 32768 ≤ 255 * br.toNat
    omega

/-- A packed word from the three bits of each of its pixels (30_encoding.md R72). -/
theorem packWord_bits (W : BitVec 6) :
    packWord (BitVec.ofBool (W.getLsbD 2) ++ BitVec.ofBool (W.getLsbD 1) ++ BitVec.ofBool (W.getLsbD 0))
      (BitVec.ofBool (W.getLsbD 5) ++ BitVec.ofBool (W.getLsbD 4) ++ BitVec.ofBool (W.getLsbD 3)) =
      0#2 ++ W := by
  revert W
  decide

/-- Settles O35: every bit comes back by `quantize_quantizeInv`, and `packWord_bits` puts them together. -/
theorem quantizerRoundTripFrom129 : Obligations.QuantizerRoundTripFrom129 := by
  unfold Obligations.QuantizerRoundTripFrom129
  refine fun br W => ⟨fun hbr => ?_, fun hbr => quantize_eq_false_of_le _ hbr,
    quantize_quantizeInv_false br⟩
  simp only [quantizePixel, quantize_quantizeInv hbr]
  exact packWord_bits W

end Sys2Proof.Machine

/-! ## O20, O22: START and STOP -/

namespace Sys2Proof.Machine

open Sys2Proof

/-- START at a stopped engine (43_scheduler.md R151). -/
theorem exec_start_stopped {s : State} (hr : s.running = false) :
    exec .start s = .next
      (({ s with running := true, stopReq := false, row := 0#5, col := 0#6, phase := .rowCheck } :
        State).respond rspDone) := by
  simp [exec, execStart, hr]

/-- STOP at a running engine (43_scheduler.md R153). -/
theorem exec_stop_running {s : State} (hr : s.running = true) :
    exec .stop s = .next { s with stopReq := true, hc := .stopping } := by
  simp [exec, execStop, hr]

/-- A STOP answers once the engine has stopped (43_scheduler.md R153). -/
theorem hostStep_stop_answers {s : State} (hc : s.hc = .stopping) (hr : s.running = false) :
    hostStep s = .next (({ s with hc := .idle } : State).respond rspDone) := by
  simp [hostStep, hc, State.stopStep, hr]

/-- Settles O20: `exec_start_stopped`. -/
theorem startBeginsAtRowZero : Obligations.StartBeginsAtRowZero := by
  unfold Obligations.StartBeginsAtRowZero
  exact fun s hr => exec_start_stopped hr

/-- Settles O22: `exec_stop_running`, then a host turn that waits (`hostStep_stop_waits`) or answers
(`hostStep_stop_answers`) as `running` says. -/
theorem stopWaitsForTheEngine : Obligations.StopWaitsForTheEngine := by
  unfold Obligations.StopWaitsForTheEngine
  refine ⟨fun s hr => exec_stop_running hr, fun s rest hsched hc => ⟨fun hr => ?_, fun hr => ?_⟩⟩
  · exact (step_cons hsched).trans (hostStep_stop_waits hc hr)
  · exact (step_cons hsched).trans (hostStep_stop_answers hc hr)

end Sys2Proof.Machine

/-! ## O23: a stop request is honoured within a row -/

namespace Sys2Proof.Machine

open Sys2Proof

/-! ### How far the engine is from IDLE -/

/-- The farthest phase from EXIT is BLANK (43_scheduler.md R154 (c)). -/
theorem State.stepsToExit_le {s : State} (hd : DwellOk s) :
    s.stepsToExit ≤ s.cfg.dwellTicks + 329 := by
  unfold DwellOk at hd
  unfold State.stepsToExit
  split <;> omega

/-- The step of OE_ON, from `DWELL_TICKS + 4` to at most `DWELL_TICKS + 2`, passes over one value: up to it
`stepsToExit` counts one step too many. -/
theorem State.stepsToExit_ne {s : State} (hd : DwellOk s) :
    s.stepsToExit ≠ s.cfg.dwellTicks + 3 := by
  unfold DwellOk at hd
  unfold State.stepsToExit
  split <;> omega

/-- How many engine steps a running engine with a stop request takes at most to IDLE: one more than to the
phase EXIT, less the one that `stepsToExit` counts too many up to OE_ON (`State.stepsToExit_ne`). -/
def State.stepsToIdle (s : State) : Nat :=
  if s.stepsToExit ≤ s.cfg.dwellTicks + 3 then s.stepsToExit + 1 else s.stepsToExit

theorem State.stepsToIdle_pos (s : State) : 0 < s.stepsToIdle := by
  unfold State.stepsToIdle
  split <;> omega

/-- A row, a FRAME_END and EXIT (43_scheduler.md R154, log 21). -/
theorem State.stepsToIdle_le {s : State} (hd : DwellOk s) :
    s.stepsToIdle ≤ 329 + s.cfg.dwellTicks := by
  have hle := State.stepsToExit_le hd
  unfold State.stepsToIdle
  split <;> omega

/-- What brings EXIT nearer brings IDLE nearer. -/
theorem State.stepsToIdle_lt {s t : State} (hcfg : t.cfg = s.cfg) (hd : DwellOk t)
    (h : t.stepsToExit < s.stepsToExit) : t.stepsToIdle < s.stepsToIdle := by
  have hne := State.stepsToExit_ne hd
  unfold State.stepsToIdle
  rw [hcfg] at hne ⊢
  split <;> split <;> omega

/-! ### The run to IDLE -/

/-- An engine turn with a stop request is the EXIT that honours it, or brings IDLE nearer. -/
theorem StopPending.step_engine {s t : State} {io : Bool} {rest : List Turn} (hp : StopPending s)
    (hd : DwellOk s) (hsched : s.schedule = .engine io :: rest) (h : step s = .next t) :
    StopHonoured t ∨ (t.stopReq = true ∧ t.stepsToIdle < s.stepsToIdle) := by
  have hdt := step_dwellOk h hd
  rw [step_cons hsched] at h
  have hp' : StopPending { s with schedule := rest } := ⟨hp.enabled, hp.running, hp.stopReq, hp.waiting⟩
  rcases hp'.engineStep h with ht | ⟨ht, hlt⟩
  · exact .inl ht
  · exact .inr ⟨ht.stopReq, State.stepsToIdle_lt (engineStep_frame h).1 hdt hlt⟩

/-- A run of engine turns that is long enough, whatever `io_err` does in it, honours the stop request
within `stepsToIdle` of them. -/
theorem run_stopHonoured {s : State} {rest : List Turn} (ios : List Bool) (hs : SchedulerOk s)
    (hd : DwellOk s) (hq : s.stopReq = true) (hlen : s.stepsToIdle ≤ ios.length)
    (hsched : s.schedule = ios.map .engine ++ rest) :
    ∃ n t, n ≤ s.stepsToIdle ∧ Host.Core.run core n s = .next t ∧ SchedulerOk t ∧ StopHonoured t := by
  induction ios generalizing s with
  | nil => exact absurd hlen (Nat.not_le.2 s.stepsToIdle_pos)
  | cons io ios ih =>
    obtain ⟨t, hstep⟩ := step_total s
    have hst := everyStepKeepsTheSchedulerFlagsConsistent s t hs hstep
    rcases (hs.stopPending hq).step_engine hd hsched hstep with ht | ⟨hqt, hlt⟩
    · exact ⟨1, t, s.stepsToIdle_pos, run_succ 0 hstep, hst, ht⟩
    · have hsched' : t.schedule = ios.map .engine ++ rest := by
        simpa [State.nextTurn_cons hsched] using (step_turns hstep).1
      obtain ⟨n, u, hn, hrun, hu⟩ :=
        ih hst (step_dwellOk hstep hd) hqt (Nat.le_of_lt_succ (hlt.trans_le hlen)) hsched'
      exact ⟨n + 1, u, hn.trans_lt hlt, (run_succ n hstep).trans hrun, hu⟩

/-- Settles O23: `run_stopHonoured`, with `State.stepsToIdle_le` for the bound; that the flags are still
consistent gives the phase and the request of the stopped engine. -/
theorem stopRequestIsHonouredWithinARow : Obligations.StopRequestIsHonouredWithinARow := by
  unfold Obligations.StopRequestIsHonouredWithinARow
  intro s ios rest hs hd hq hios hsched
  have hlen : s.stepsToIdle ≤ ios.length := hios ▸ State.stepsToIdle_le hd
  obtain ⟨n, t, hn, hrun, ⟨hidle, hreq, -, -⟩, hr, hc⟩ := run_stopHonoured ios hs hd hq hlen hsched
  have hqt : t.stopReq = false := Bool.eq_false_iff.2 fun h => by simpa [hr] using hreq h
  exact ⟨n, t, hn.trans hlen, hrun, hidle.1 hr, hr, hqt, hc⟩

end Sys2Proof.Machine

/-! ## O40: the panel's previous levels -/

namespace Sys2Proof.Machine

open Sys2Proof

theorem PanelOk.of_pinsSame {s t : State} (hs : PanelOk s) (h : PinsSame s t) : PanelOk t := by
  obtain ⟨-, hclk, hlat, -, -, hpanel⟩ := h
  rw [PanelOk, hclk, hlat, hpanel]
  exact hs

/-- No host step touches a pin or the observer (60_exceptions.md R188). -/
theorem HostEffect.pinsSame {s t : State} (h : HostEffect s t) : PinsSame s t := by
  rcases h.display with ⟨-, hsame⟩ | ⟨-, -, hpins⟩
  · exact hsame.pins
  · exact hpins

/-- Settles O40: a pin write leaves the panel with the levels it has just seen
(`exec_phaseInstr_panelOk`), a host step touches neither (`HostEffect.pinsSame`), and a reset takes both
to 0. -/
theorem everyStepKeepsThePanelInStep : Obligations.EveryStepKeepsThePanelInStep := by
  unfold Obligations.EveryStepKeepsThePanelInStep
  intro s t hs h
  exact step_keeps (P := PanelOk) (fun s hs => by simpa [PanelOk] using hs)
    (fun s _ io hs h => exec_phaseInstr_panelOk (s := { s with ioErr := io }) h hs)
    (fun _ _ hs h => hs.of_pinsSame (hostStep_effect h).pinsSame)
    (fun _ _ => ⟨rfl, rfl⟩) hs h

end Sys2Proof.Machine

/-! ## O53: the panel's edges -/

namespace Sys2Proof.Machine

open Sys2Proof

@[simp] theorem shiftIn_zero (sr : Vector (BitVec 6) 64) (d : BitVec 6) : (shiftIn sr d)[0] = d := by
  simp [shiftIn]

@[simp] theorem shiftIn_succ (sr : Vector (BitVec 6) 64) (d : BitVec 6) (k : Nat) (h : k + 1 < 64) :
    (shiftIn sr d)[k + 1] = sr[k] := by
  simp [shiftIn]

section
variable {p : Panel} {d : BitVec 6} {clk lat : Bool}

theorem Panel.observe_sr_of_rise (h : p.prevClk = false ∧ clk = true) :
    (p.observe d clk lat).sr = shiftIn p.sr d := by
  simp [Panel.observe, h]

theorem Panel.observe_sr_of_not_rise (h : ¬(p.prevClk = false ∧ clk = true)) :
    (p.observe d clk lat).sr = p.sr :=
  if_neg (by simpa using h)

theorem Panel.observe_outreg_of_rise (h : p.prevLat = false ∧ lat = true) :
    (p.observe d clk lat).outreg = p.sr := by
  simp [Panel.observe, h]

theorem Panel.observe_outreg_of_not_rise (h : ¬(p.prevLat = false ∧ lat = true)) :
    (p.observe d clk lat).outreg = p.outreg :=
  if_neg (by simpa using h)

end

/-- Settles O53: each register with and without the rise that moves it; on a rise of CLK the stages are
those of `shiftIn`. -/
theorem panelMovesOnRisingEdgesOnly : Obligations.PanelMovesOnRisingEdgesOnly := by
  unfold Obligations.PanelMovesOnRisingEdgesOnly
  intro p d clk lat
  refine ⟨fun hrise => ?_, Panel.observe_sr_of_not_rise, Panel.observe_outreg_of_rise,
    Panel.observe_outreg_of_not_rise⟩
  simp only [Panel.observe_sr_of_rise hrise]
  exact ⟨shiftIn_zero p.sr d, shiftIn_succ p.sr d⟩

end Sys2Proof.Machine

/-! ## O55: what is lit -/

namespace Sys2Proof.Machine

open Sys2Proof

/-! ### The LEDs -/

/-- `OE_n = 1` blanks every LED (44_panel_observer.md R169). -/
theorem State.led_blank {s : State} (h : s.pinOeN = true) (x y : Nat) : s.led x y = 0#3 := by
  simp [State.led, h]

/-- With the row buffer latched a lit panel shows it in the addressed row-pair and is dark elsewhere
(44_panel_observer.md R169). -/
theorem Latched.led {s : State} (hs : Latched s) (hlit : s.pinOeN = false) {x : Nat} (hx : x < 64)
    (y : Nat) :
    s.led x y =
      if y = s.pinAddr.toNat then (s.word x).extractLsb' 0 3
      else if y = s.pinAddr.toNat + 32 then (s.word x).extractLsb' 3 3 else 0#3 := by
  have hout : s.panel.outreg[63 - x] = s.word x := by
    rw [← hs x hx, State.latch, Vector.getElem?_eq_getElem (by omega), Option.getD_some]
  simp [State.led, hlit, hx, hout]

/-! ### The row-pair being shown -/

/-- In DWELL and FRAME_END that is `row` (41_row_scan.md R127, R129). -/
theorem State.rowShown_of_dwell {s : State} (h : s.phase = .dwell ∨ s.phase = .frameEnd) :
    s.rowShown = s.row := by
  rcases h with h | h <;> simp [State.rowShown, h]

/-- In ROW_CHECK, BLANK and EXIT it is the one before `row` (41_row_scan.md R112, R128). -/
theorem State.rowShown_of_rowCheck {s : State}
    (h : s.phase = .rowCheck ∨ s.phase = .blank ∨ s.phase = .exit) : s.rowShown = s.row - 1#5 := by
  rcases h with h | h | h <;> simp [State.rowShown, h]

theorem DisplayAt.of_dwell {s : State} (hs : DisplayAt s.phase s)
    (h : s.phase = .dwell ∨ s.phase = .frameEnd) :
    s.pinOeN = false ∧ s.pinAddr = s.row ∧ Latched s := by
  rcases h with h | h <;> rw [h] at hs
  · obtain ⟨hoe, -, -, haddr, hout⟩ := (displayAt_dwell s).1 hs
    exact ⟨hoe, haddr, hout⟩
  · obtain ⟨hoe, -, -, haddr, -, hout⟩ := (displayAt_frameEnd s).1 hs
    exact ⟨hoe, haddr, hout⟩

theorem DisplayAt.of_rowCheck {s : State} (hs : DisplayAt s.phase s)
    (h : s.phase = .rowCheck ∨ s.phase = .blank ∨ s.phase = .exit) (hlit : s.pinOeN = false) :
    s.pinAddr + 1#5 = s.row ∧ Latched s := by
  have hat : DisplayAt .rowCheck s := by rcases h with h | h | h <;> rw [h] at hs <;> exact hs
  exact (((displayAt_rowCheck s).1 hat).2.2 hlit).2

/-- Whenever the panel is lit it is addressed to the row-pair being shown and has the row buffer latched
(44_panel_observer.md R170). -/
theorem DisplayAt.lit {s : State} (hs : DisplayAt s.phase s) (hlit : s.pinOeN = false) :
    s.pinAddr = s.rowShown ∧ Latched s := by
  have hcases : (s.phase = .rowCheck ∨ s.phase = .blank ∨ s.phase = .exit) ∨
      (s.phase = .dwell ∨ s.phase = .frameEnd) := by
    simpa only [or_assoc] using hs.phase_of_lit hlit
  rcases hcases with hp | hp
  · obtain ⟨haddr, hout⟩ := hs.of_rowCheck hp hlit
    exact ⟨(eq_sub_of_add_eq haddr).trans (State.rowShown_of_rowCheck hp).symm, hout⟩
  · obtain ⟨-, haddr, hout⟩ := hs.of_dwell hp
    exact ⟨haddr.trans (State.rowShown_of_dwell hp).symm, hout⟩

/-- Settles O55: `DisplayAt.lit` says what is latched and addressed, `Latched.led` what the LEDs show
then. -/
theorem litLedsShowTheRowBuffer : Obligations.LitLedsShowTheRowBuffer := by
  unfold Obligations.LitLedsShowTheRowBuffer
  intro s hs hpf
  have hat := (displayOk_iff s).1 hs hpf
  refine ⟨fun hlit x y hx _ => (hat.lit hlit).2.led hlit hx y, State.led_blank, fun hp => ?_,
    fun hp hlit => (hat.of_rowCheck hp hlit).1, fun hlit => ?_⟩
  · obtain ⟨hoe, haddr, -⟩ := hat.of_dwell hp
    exact ⟨hoe, haddr⟩
  · obtain ⟨haddr, hout⟩ := hat.lit hlit
    rw [← haddr]
    exact ⟨rfl, fun x hx => ⟨by simp [hout.led hlit hx], by simp [hout.led hlit hx]⟩⟩

end Sys2Proof.Machine

/-! ## O59: the displayed frame -/

namespace Sys2Proof.Machine

open Sys2Proof

/-! ### A packed word taken apart -/

/-- The upper pixel is in bits 2:0 (30_encoding.md R72). -/
theorem packWord_upper (upper lower : BitVec 3) :
    ((packWord upper lower).extractLsb' 0 6).extractLsb' 0 3 = upper := by
  revert upper lower
  decide

/-- The lower pixel is in bits 5:3 (30_encoding.md R72). -/
theorem packWord_lower (upper lower : BitVec 3) :
    ((packWord upper lower).extractLsb' 0 6).extractLsb' 3 3 = lower := by
  revert upper lower
  decide

theorem PackedTo.word {s t : State} (h : PackedTo s t 64) {x : Nat} (hx : x < 64) :
    t.word x = (s.column x).extractLsb' 0 6 := by
  have hcol : (BitVec.ofNat 6 x).toNat = x := Nat.mod_eq_of_lt hx
  have hword := t.rowWord_word (BitVec.ofNat 6 x)
  rw [h _ (BitVec.isLt _), hcol] at hword
  exact hword.symm

/-! ### A row and a frame -/

/-- The step that lights a row shows the quantized pixels of its row-pair and nothing else
(44_panel_observer.md R171, 42_quantizer.md R144). -/
theorem RowRun.led {s t : State} (h : RowRun s 327 t) {x : Nat} (hx : x < 64) (y : Nat) :
    t.led x y =
      if y = s.row.toNat ∨ y = s.row.toNat + 32 then quantizePixel (s.pixRead x y) s.brightness
      else 0#3 := by
  obtain ⟨-, -, -, hpacked, hdisp, -⟩ := h.lit
  obtain ⟨hlit, -, -, haddr, hout⟩ := (displayAt_dwell t).1 hdisp
  rw [hout.led hlit hx, haddr, h.same.row, hpacked.word hx, State.column, columnWord, packWord_upper,
    packWord_lower]
  by_cases hupper : y = s.row.toNat
  · simp [hupper, State.pixRead]
  · by_cases hlower : y = s.row.toNat + 32
    · simp [hlower, State.pixRead]
    · simp [hupper, hlower]

/-- Settles O59: the rows before `r` by `run_rows`, row `r` itself by `run_row`, and what it shows by
`RowRun.led`. -/
theorem theFrameShowsTheQuantizedFramebuffer : Obligations.TheFrameShowsTheQuantizedFramebuffer := by
  unfold Obligations.TheFrameShowsTheQuantizedFramebuffer
  intro s rest r hp hrow hreq hpanel hclk hlat hticks hr hsched
  rw [← List.replicate_append_replicate, List.append_assoc] at hsched
  obtain ⟨t, hrun, ht, hrest⟩ :=
    run_rows hp hrow ⟨hreq, hpanel, hclk, hlat⟩ hticks r (Nat.le_of_lt_succ hr) _ hsched
  obtain ⟨u, hrun', hu, -⟩ := run_row ht.phase ht.ready hrest
  obtain ⟨-, -, -, -, hdisp, -⟩ := hu.lit
  refine ⟨u, (run_add _ _ hrun).trans hrun', ((displayAt_dwell u).1 hdisp).1, fun x y hx _ => ?_⟩
  rw [hu.led hx, ht.row, State.pixRead_congr ht.same.fb, ht.same.brightness]

end Sys2Proof.Machine

/-! ## O21: START while running, STOP while stopped -/

namespace Sys2Proof.Machine

open Sys2Proof

/-- START at a running engine is LifecycleMisuse (60_exceptions.md R183). -/
theorem exec_start_running {s : State} (hr : s.running = true) :
    exec .start s = .next (s.respond rspDone) := by
  simp [exec, execStart, hr]

/-- STOP at a stopped engine is LifecycleMisuse (60_exceptions.md R183). -/
theorem exec_stop_stopped {s : State} (hr : s.running = false) :
    exec .stop s = .next (s.respond rspDone) := by
  simp [exec, execStop, hr]

/-- Settles O21: `exec_start_running` and `exec_stop_stopped`. -/
theorem lifecycleMisuseOnlyResponds : Obligations.LifecycleMisuseOnlyResponds := by
  unfold Obligations.LifecycleMisuseOnlyResponds
  exact fun s => ⟨exec_start_running, exec_stop_stopped⟩

end Sys2Proof.Machine

/-! ## O6: illegal words -/

namespace Sys2Proof.Machine

open Sys2Proof

/-- An idle port that takes a word which is no command raises IllegalCommand (60_exceptions.md R184). -/
theorem hostStep_illegal {s : State} {cw : CommandWord} {ws : List CommandWord} {e : DecodeError}
    (hc : s.hc = .idle) (hw : s.cmds = cw :: ws) (hd : decodeCommand cw = .error e) :
    hostStep s = .next (({ s with cmds := ws } : State).raise .illegalCommand) := by
  simp [hostStep, hc, State.nextWord_cons hw, acceptWord, hd]

/-- Settles O6: the word does not decode (`decodeCommand_illegal`), and `hostStep_illegal` says what the
port does with it. -/
theorem illegalWordSetsIcAndIsAnsweredWithAnError :
    Obligations.IllegalWordSetsIcAndIsAnsweredWithAnError := by
  unfold Obligations.IllegalWordSetsIcAndIsAnsweredWithAnError
  intro s cw rest ws hsched hc hw hop
  have hhost : hostStep { s with schedule := rest } = _ :=
    hostStep_illegal hc hw (decodeCommand_illegal hop)
  exact (step_cons hsched).trans hhost

end Sys2Proof.Machine

/-! ## O9: accesses out of bounds -/

namespace Sys2Proof.Machine

open Sys2Proof

/-- SETPIXEL outside the panel (60_exceptions.md R182). -/
theorem exec_setpixel_outOfBounds (s : State) {x y : Int} (r g b : Byte) (h : inBounds x y = false) :
    exec (.setpixel x y r g b) s = .next (s.respond rspDone) := by
  simp [exec, execSetpixel, State.putPixel_out r g b h]

/-- GETPIXEL outside the panel (60_exceptions.md R182). -/
theorem exec_getpixel_outOfBounds (s : State) {x y : Int} (h : inBounds x y = false) :
    exec (.getpixel x y) s = .next (s.respond (rspPixel false (0#8, 0#8, 0#8))) := by
  simp [exec, execGetpixel, h]

/-- A FILLRECT step whose pixel lies outside the panel leaves the framebuffer alone. -/
theorem State.fillStep_fb_outOfBounds (s : State) {dx dy : Nat} {x y : Int} (w h : Int) (r g b : Byte)
    (hout : inBounds (x + dx) (y + dy) = false) : (s.fillStep dx dy x y w h r g b).fb = s.fb := by
  rw [State.fillStep_fb, State.putPixel_out r g b hout]

/-- Settles O9: a dropped SETPIXEL or GETPIXEL is its response; of a dropped FILLRECT pixel
`State.fillStep_trace`, `State.fillStep_hc` and `State.fillStep_frame` say the rest. -/
theorem boundsViolationsAreDropped : Obligations.BoundsViolationsAreDropped := by
  unfold Obligations.BoundsViolationsAreDropped
  intro s x y hxy
  have hout : inBounds x y = false := Bool.eq_false_iff.2 fun h => hxy ((inBounds_iff x y).1 h)
  refine ⟨fun r g b => exec_setpixel_outOfBounds s r g b hout, exec_getpixel_outOfBounds s hout, ?_⟩
  rintro dx dy x0 y0 w h r g b rfl rfl
  refine ⟨s.fillStep_trace .., s.fillStep_hc .., ?_⟩
  have hframe := s.fillStep_frame dx dy x0 y0 w h r g b
  rwa [← State.fillStep_fb_outOfBounds s w h r g b hout] at hframe

end Sys2Proof.Machine

/-! ## O32: what `io_err` cannot disturb -/

namespace Sys2Proof.Machine

open Sys2Proof

/-- But for what a pin write may change, `t` is `s` with `io_err` at level `io`. -/
def SameBesidePins (io : Bool) (s t : State) : Prop := ({ s with ioErr := io } : State).withPinsOf t = t

/-- A pin write from two such states: `State.pinWrite_frame` at each level of `io_err`. -/
theorem State.pinWrite_sameBesidePins (s : State) (io io' : Bool) (w : PinWrite) :
    SameBesidePins io' (({ s with ioErr := io } : State).pinWrite w)
      (({ s with ioErr := io' } : State).pinWrite w) := by
  unfold SameBesidePins
  rw [← State.pinWrite_frame { s with ioErr := io } w, ← State.pinWrite_frame { s with ioErr := io' } w]
  rfl

section
variable {io : Bool} {s t : State}

theorem SameBesidePins.goto (h : SameBesidePins io s t) (p : Phase) :
    SameBesidePins io (s.goto p) (t.goto p) :=
  congrArg (State.goto · p) h

theorem SameBesidePins.nextCol (h : SameBesidePins io s t) (more last : Phase) :
    SameBesidePins io (s.nextCol more last) (t.nextCol more last) := by
  have hcol : s.col = t.col := by rw [← h]; rfl
  unfold State.nextCol
  rw [hcol]
  split
  · exact congrArg (fun u : State => { u with col := 0#6, phase := last }) h
  · exact congrArg (fun u : State => { u with col := t.col + 1#6, phase := more }) h

theorem SameBesidePins.advanceRow (h : SameBesidePins io s t) :
    SameBesidePins io s.advanceRow t.advanceRow := by
  have hrow : s.row = t.row := by rw [← h]; rfl
  unfold State.advanceRow
  rw [hrow]
  split
  · exact h.goto .frameEnd
  · exact congrArg (fun u : State => ({ u with row := t.row + 1#5 } : State).goto .rowCheck) h

end

/-- Every instruction at two levels of `io_err`: only pin writes read it, and what they may change no
instruction reads but GETSTATUS, for its response (60_exceptions.md R179, R181). -/
theorem exec_sameBesidePins (i : Instr) (s : State) (io io' : Bool) :
    ∃ t u, exec i { s with ioErr := io } = .next t ∧ exec i { s with ioErr := io' } = .next u ∧
      SameBesidePins io' t u := by
  have hpin := s.pinWrite_sameBesidePins io io'
  cases i <;> refine ⟨_, _, rfl, rfl, ?_⟩
  case blank | data | clkHi | addr | latHi | latLo => exact (hpin _).goto _
  case clkLo => exact (hpin _).nextCol .data .addr
  case oeOn =>
    exact congrArg (fun u : State => ({ u with dwellCnt := s.cfg.dwellTicks - 1 } : State).goto .dwell)
      (hpin (.oeN false))
  case frameEnd =>
    exact congrArg (fun u : State => ({ u with row := 0#5 } : State).goto .rowCheck) (hpin (.oeN true))
  case exit =>
    exact congrArg (fun u : State => ({ u with running := false, stopReq := false } : State).goto .idle)
      (hpin (.oeN true))
  case packL => exact SameBesidePins.nextCol (by rfl) .packU .data
  case dwell =>
    split
    · rfl
    · exact SameBesidePins.advanceRow (by rfl)
  case setpixel => unfold State.putPixel; split <;> rfl
  case clear => unfold State.clearStep; split <;> rfl
  case fillrect => unfold State.fillStep State.putPixel; split_ifs <;> rfl
  case getpixel | start | stop => split <;> rfl
  all_goals rfl

/-- Settles O32: `exec_sameBesidePins`. -/
theorem peripheralFaultsNeverDisturbTheRegisters :
    Obligations.PeripheralFaultsNeverDisturbTheRegisters := by
  unfold Obligations.PeripheralFaultsNeverDisturbTheRegisters
  exact exec_sameBesidePins

end Sys2Proof.Machine

/-! ## O45: construction -/

namespace Sys2Proof

/-- The pins role by role, in the order of 30_encoding.md R70. -/
theorem Configuration.pins_toList (c : Configuration) :
    c.pins.toList = List.ofFn fun i : Fin 14 => c.pins[i] :=
  List.ext_getElem (by simp) fun i _ _ => by rw [List.getElem_ofFn]; rfl

/-- The three tests of 60_exceptions.md R177. -/
theorem Configuration.valid_iff (c : Configuration) :
    c.valid = true ↔ c.width = 64 ∧ c.height = 64 ∧ 1 ≤ c.dwellTicks ∧
      ∀ i j : Fin 14, c.pins[i] ≠ none ∧ (c.pins[i] = c.pins[j] → i = j) := by
  have hall : c.pins.toList.all Option.isSome = true ↔ ∀ i : Fin 14, c.pins[i] ≠ none := by
    rw [c.pins_toList, List.all_eq_true, List.forall_mem_ofFn_iff]
    simp only [Option.isSome_iff_ne_none]
  have hnodup : c.pins.toList.Nodup ↔ ∀ i j : Fin 14, c.pins[i] = c.pins[j] → i = j := by
    rw [c.pins_toList, List.nodup_ofFn]
    rfl
  simp only [Configuration.valid, Bool.and_eq_true, decide_eq_true_eq, hall, hnodup, forall_and,
    forall_const, and_assoc]

end Sys2Proof

namespace Sys2Proof.Machine

open Sys2Proof

/-- Settles O45: `construct` goes by `Configuration.valid`, which `Configuration.valid_iff` spells out. -/
theorem constructionAcceptsExactlyTheValidConfigurations :
    Obligations.ConstructionAcceptsExactlyTheValidConfigurations := by
  unfold Obligations.ConstructionAcceptsExactlyTheValidConfigurations
  intro c
  rw [← c.valid_iff]
  exact ⟨fun h => if_pos h, fun h => if_neg h⟩

end Sys2Proof.Machine

/-! ## O46: every step goes on -/

namespace Sys2Proof.Machine

open Sys2Proof

/-- No step changes the configuration (60_exceptions.md R178). -/
theorem step_cfg {s t : State} (h : step s = .next t) : t.cfg = s.cfg :=
  step_keeps (P := fun u => u.cfg = s.cfg) (fun u hu => u.nextTurn_cfg.trans hu)
    (fun _ _ _ hu h => (engineStep_frame h).1.trans hu)
    (fun _ _ hu h => (hostStep_effect h).frame.1.trans hu) (fun u hu => u.assertReset_cfg.trans hu) rfl h

/-- Settles O46: `step_total` and `step_cfg`. -/
theorem everyStepGoesOnAndKeepsTheConfiguration :
    Obligations.EveryStepGoesOnAndKeepsTheConfiguration := by
  unfold Obligations.EveryStepGoesOnAndKeepsTheConfiguration
  intro s
  obtain ⟨t, ht⟩ := step_total s
  exact ⟨t, ht, step_cfg ht⟩

end Sys2Proof.Machine

/-! ## O48: host steps leave the engine's side alone -/

namespace Sys2Proof.Machine

open Sys2Proof

/-- No effect of a host step reaches the registers in which the engine builds a row, nor PF. -/
theorem HostEffect.scanState {s t : State} (h : HostEffect s t) :
    t.pixTmp = s.pixTmp ∧ t.brightLat = s.brightLat ∧ t.pf = s.pf := by
  cases h
  case illegal _ _ hf => rw [← hf]; exact ⟨rfl, rfl, by simp [State.pf]⟩
  case wait _ _ hsame => subst t; exact ⟨rfl, rfl, rfl⟩
  case pixel _ _ hf | start _ _ _ hf | stop _ _ _ hf | answer _ _ _ hf =>
    rw [← hf]; exact ⟨rfl, rfl, rfl⟩

/-- A host step leaves the engine's position and `running` alone, but for a START at a stopped engine
(43_scheduler.md R151). -/
theorem HostEffect.position {s t : State} (h : HostEffect s t) :
    (t.phase = s.phase ∧ t.row = s.row ∧ t.col = s.col ∧ t.running = s.running) ∨
      (s.hc = .idle ∧ s.running = false ∧ t.running = true ∧ t.phase = .rowCheck ∧ t.row = 0#5 ∧
        t.col = 0#6) := by
  cases h
  case start hc _ hr hf => rw [← hf]; exact .inr ⟨hc, hr, rfl, rfl, rfl, rfl⟩
  case wait _ _ hsame => subst t; exact .inl ⟨rfl, rfl, rfl, rfl⟩
  case pixel _ _ hf | illegal _ _ hf | stop _ _ _ hf | answer _ _ _ hf =>
    rw [← hf]; exact .inl ⟨rfl, rfl, rfl, rfl⟩

/-- START is the only command that changes `running`. -/
theorem exec_command_running {i : Instr} {s t : State} (hi : IsCommand i) (h : exec i s = .next t)
    (hne : i ≠ .start) : t.running = s.running := by
  cases hi <;> cases h
  case setpixel => simp
  case getpixel => split <;> rfl
  case clear => exact (s.clearStep_engineSame _ _ _ _).running
  case fillrect =>
    split
    · rfl
    · exact (s.fillStep_engineSame _ _ _ _ _ _ _ _ _).running
  case start => exact absurd rfl hne
  case stop => split <;> rfl
  all_goals rfl

/-- A host step that sets `running` has accepted a word that decodes to START. -/
theorem hostStep_starts {s t : State} (h : hostStep s = .next t) (hr : s.running = false)
    (hr' : t.running = true) : ∃ cw, s.nextWord.1 = some cw ∧ decodeCommand cw = .ok .start := by
  have hne : t.running ≠ s.running := by simp [hr, hr']
  rcases hostStep_cases h with ⟨-, -, rfl⟩ | ⟨-, cw, i, hw, hd, h⟩ | ⟨-, cw, e, -, -, rfl⟩ |
    ⟨i, r, g, b, -, rfl⟩ | ⟨dx, dy, x, y, w, k, r, g, b, -, rfl⟩ | ⟨-, rfl⟩
  · exact absurd s.nextWord_engineSame.running hne
  · by_cases hi : i = .start
    · exact ⟨cw, hw, hi ▸ hd⟩
    · exact absurd ((exec_command_running (decodeCommand_isCommand hd) h hi).trans
        s.nextWord_engineSame.running) hne
  · exact absurd (by simp) hne
  · exact absurd (s.clearStep_engineSame i r g b).running hne
  · exact absurd (s.fillStep_engineSame dx dy x y w k r g b).running hne
  · unfold State.stopStep at hne
    split at hne <;> exact absurd rfl hne

/-- Which word is presented does not depend on the turns to come. -/
theorem State.nextWord_fst_schedule (s : State) (rest : List Turn) :
    ({ s with schedule := rest } : State).nextWord.1 = s.nextWord.1 := by
  unfold State.nextWord
  cases s.cmds <;> rfl

/-- Settles O48: what the effect of the host step keeps (`HostEffect.pinsSame`, `HostEffect.frame`,
`HostEffect.scanState`, `HostEffect.position`), and `hostStep_starts` for the word of the START. -/
theorem hostStepsTouchNoPinAndNoRowScanState : Obligations.HostStepsTouchNoPinAndNoRowScanState := by
  unfold Obligations.HostStepsTouchNoPinAndNoRowScanState
  intro s t rest hsched h
  have hhost : hostStep { s with schedule := rest } = .next t := (step_cons hsched).symm.trans h
  have heff := hostStep_effect hhost
  obtain ⟨-, hrowbuf, hdwell⟩ := heff.frame
  obtain ⟨hpix, hbright, hpf⟩ := heff.scanState
  refine ⟨heff.pinsSame, hrowbuf, hpix, hbright, hdwell, hpf, heff.position.imp_right ?_⟩
  rintro ⟨hc, hr, hr', hpos⟩
  obtain ⟨cw, hw, hd⟩ := hostStep_starts hhost hr hr'
  rw [s.nextWord_fst_schedule rest] at hw
  exact ⟨hc, ⟨cw, hw, hd⟩, hr, hr', hpos⟩

end Sys2Proof.Machine

/-! ## O49: engine steps leave the host's side alone -/

namespace Sys2Proof.Machine

open Sys2Proof

/-- Settles O49: `engineStep_hostSame` for the host's side, `engineStep_frame` and `exec_exit_flags` for the
flags. -/
theorem engineStepsTouchNoHostState : Obligations.EngineStepsTouchNoHostState := by
  unfold Obligations.EngineStepsTouchNoHostState
  intro s t io rest hsched h
  have hengine : engineStep io { s with schedule := rest } = .next t := (step_cons hsched).symm.trans h
  obtain ⟨hfb, hbright, hic, hhc, hcmds, hwords, -⟩ := engineStep_hostSame hengine
  obtain ⟨-, -, hflags⟩ := engineStep_frame hengine
  refine ⟨hfb, hbright, hic, hhc, hcmds, State.responses_congr hwords, hflags, fun hp => ?_⟩
  rw [step_engine hsched, hp] at h
  obtain ⟨hrun, hreq, -⟩ := exec_exit_flags h
  exact ⟨hrun, hreq⟩

end Sys2Proof.Machine

/-! ## O44: the reset move -/

namespace Sys2Proof.Machine

/-- A reset turn takes itself off the turns and makes the reset move (70_reset_and_hazards.md R195). -/
theorem step_resetTurn {s : State} {rest : List Turn} (h : s.schedule = .reset :: rest) :
    step s = .next ({ s with schedule := rest } : State).assertReset :=
  step_cons h

/-- After the reset move every byte of the framebuffer reads 0 (10_state.md R42). -/
theorem State.assertReset_read (s : State) (a : Nat) : Memory.read s.assertReset.fb a = 0#8 := rfl

/-- Settles O44: the state after is that of `step_resetTurn`; the framebuffer by `State.assertReset_read`,
every other item by the rule of `State.assertReset` for its field. -/
theorem resetMoveBlanksAndClears : Obligations.ResetMoveBlanksAndClears := by
  unfold Obligations.ResetMoveBlanksAndClears
  intro s rest hsched
  refine ⟨_, step_resetTurn hsched, State.assertReset_read _, ?_⟩
  simp

end Sys2Proof.Machine
